-- ==== Sys2Proof/Word.lean ====
section
/-! DEFINITION. The value types of the block: bytes and 16-bit fields are bit vectors (R8), everything the spec
gives no width stays an integer, a natural number or a list. -/

namespace Sys2Proof

/-- A byte, 0..255 (R8). -/
abbrev Byte := BitVec 8

/-- A 16-bit field: the width of `LENGTH` and of the length field of a request (R28, R83). -/
abbrev Half := BitVec 16

/-- A character string: the codes of its characters, first character first. The spec gives no character set
(N6), so a code is any natural number; the rule of R112 names codes 0x09..0x0D, 0x20 and 'A'..'Z' only. -/
abbrev Str := List Nat

/-- A vendor status code: an integer without a width, 0 is success (R190). -/
abbrev Status := Int

/-- A value returned by the `open` primitive (R24): the block stores it and passes it back, nothing else. -/
structure Handle where
  token : Nat
deriving DecidableEq, Repr, Inhabited

end Sys2Proof
end

