-- ==== Sys2Proof/Config.lean ====
section
/-! DEFINITION. The constants and the parameters of rule R7, and the model's one free value (U6). A constant is a
literal the spec fixes; a parameter is a field of `Params`, which State carries unchanged, so that a statement about
every state is a statement about every parameter value (D2, D4, D7, D8). -/

namespace Sys2Proof

namespace Config

/-- `SYNC` (R7). -/
def sync : Byte := 0xEF#8
/-- `CMD_WRITE` (R7). -/
def cmdWrite : Byte := 0xF0#8
/-- `CMD_READ` (R7). -/
def cmdRead : Byte := 0xF1#8
/-- `ACK` (R7). -/
def ack : Byte := 0xE0#8
/-- `ACK_OFFSET` (R7). -/
def ackOffset : Nat := 7
/-- `RESP_OVERHEAD` (R7). -/
def respOverhead : Nat := 9
/-- `HDR_LEN` (R7): header bytes of a response, the acknowledgement byte being the last. -/
def hdrLen : Nat := 8
/-- `POLL_LIMIT` (R7, R27). -/
def pollLimit : Nat := 100
/-- `POLL_INTERVAL_MS` (R7, R27). -/
def pollIntervalMs : Nat := 1
/-- `READY_CODE` (R7). -/
def readyCode : Int := 2
/-- `LEN_BIAS` (R7). -/
def lenBias : Nat := 4
/-- `READ_LEN_FIELD` (R7). -/
def readLenField : Nat := 6
/-- The largest payload the 16-bit length field carries: `L + 4 <= 65535` (R84). -/
def maxEncodablePayload : Nat := 65531

/-- The argument of `T.close` when `HANDLE` holds no value: a draw, any value (R126 (c), U6). FREE VALUE: no body;
applied to the counter `State.draws`. -/
opaque freeHandle : Nat → Handle

end Config

/-- `REOPEN_IN_CLOSE` (R7, D8). -/
inductive ReopenMode where
  | viaFlag
  | always
deriving DecidableEq, Repr

/-- The five descriptor field selectors `FIELD_*` (R7, R192): distinct names; their numbers are the transport's
and no rule uses them (N6). -/
inductive DescriptorField where
  | serial
  | description
  | linkName
  | vid
  | pid
deriving DecidableEq, Repr

/-- The open parameters of R7 that the block's rules read. -/
structure Params where
  readTimeoutMs : Nat
  writeTimeoutMs : Nat
  maxWritePayload : Nat
  closeAfterOpenFailure : Bool
  reopenInClose : ReopenMode
deriving DecidableEq, Repr

namespace Params

/-- The defaults of R7. -/
def default : Params :=
  { readTimeoutMs := 500, writeTimeoutMs := 1000, maxWritePayload := 246,
    closeAfterOpenFailure := false, reopenInClose := .viaFlag }

/-- The legal range of R7: `MAX_WRITE_PAYLOAD` is 0..65531; the other parameters take every value of their type. -/
def legal (p : Params) : Bool := decide (p.maxWritePayload ≤ Config.maxEncodablePayload)

end Params

end Sys2Proof
end

