-- ==== Sys2Proof/Syntax.lean ====
section
/-! DEFINITION. The operations: one constructor per row of spec/opcode_table.json (R9). Host operands are the
integers as the host gives them (R28: a value that does not fit its register is refused, not truncated), so
ill-fitting requests can be written down. -/

namespace Sys2Proof

/-- `OP`: what a host can ask for (R28). -/
inductive HostOp where
  | selectIndex
  | selectSerial
  | writeRegisters
  | readRegisters
  | discard
deriving DecidableEq, Repr

/-- The rows of the opcode table. -/
inductive Instr where
  /-- `WRITE_REGISTERS`: `WR dev, reg, [b0 b1 ...]` (R140). -/
  | writeRegisters (dev reg : Int) (payload : List Int)
  /-- `READ_REGISTERS`: `RD dev, reg, n` (R155). -/
  | readRegisters (dev reg length : Int)
  /-- `RESPONSE_TO_WRITE`: an inbound frame of format `A` with the acknowledgement `0xE0` at offset 7 (R82, R176):
  the seven unexamined header bytes and the unexamined trailer. -/
  | responseToWrite (header : List Byte) (trailer : Byte)
  /-- `RESPONSE_TO_READ`: the same with `N` payload bytes from offset 8 (R82, R157). -/
  | responseToRead (header payload : List Byte) (trailer : Byte)
  /-- `SELECT_INDEX`: `SELI index` (R111). -/
  | selectIndex (index : Int)
  /-- `SELECT_SERIAL`: `SELS "serial"` (R112). -/
  | selectSerial (serial : Str)
  /-- `ENUMERATE` (R110), a micro-step. -/
  | enumerate
  /-- `DISCARD`: `DISC` (R114). -/
  | discard
  /-- `OPEN_SESSION` (R125), internal. -/
  | openSession
  /-- `CLOSE_SESSION` (R126), internal. -/
  | closeSession
  /-- `TRANSACT` (R127), internal: the wrapper around the transaction that `OP` names. -/
  | transact
  /-- `SUM8(B)` (R170). -/
  | sum8 (bytes : List Byte)
  /-- `FLUSH` (R172), a micro-step. -/
  | flush
  /-- `TRANSMIT(TXBUF)` (R173), a micro-step. -/
  | transmit
  /-- `POLL` (R174), a micro-step. -/
  | poll
  /-- `RECEIVE(k)` (R175), a micro-step. -/
  | receive (count : Nat)
  /-- `ACKCHECK(RXBUF)` (R176), a micro-step. -/
  | ackCheck
deriving DecidableEq, Repr

/-- The operations a host may issue (R28, R94); every other row is internal or inbound. -/
def Instr.hostOp : Instr → Option HostOp
  | .writeRegisters _ _ _ => some .writeRegisters
  | .readRegisters _ _ _ => some .readRegisters
  | .selectIndex _ => some .selectIndex
  | .selectSerial _ => some .selectSerial
  | .discard => some .discard
  | .responseToWrite _ _ => none
  | .responseToRead _ _ _ => none
  | .enumerate => none
  | .openSession => none
  | .closeSession => none
  | .transact => none
  | .sum8 _ => none
  | .flush => none
  | .transmit => none
  | .poll => none
  | .receive _ => none
  | .ackCheck => none

end Sys2Proof
end

