-- ==== Sys2Proof/Machine/State.lean ====
section
/-! DEFINITION. The state of the block: the registers of rules R22 to R34, and beside them the model's own fields
(the sequencer's locals, the inputs that wait outside the block, and the call trace). Plain data throughout. -/

namespace Sys2Proof.Machine

/-- `PHASE`, the block's program counter: the thirteen values of R30. -/
inductive Phase where
  | idle
  | enumCount
  | enumDesc
  | opening
  | build
  | flushing
  | transmitting
  | polling
  | waiting
  | receiving
  | checking
  | reopening
  | closing
deriving DecidableEq, Repr

/-- The six errors and "none" (R210). -/
inductive ErrorCode where
  | none
  | driverError
  | deviceNotFoundError
  | rangeError
  | ioError
  | timeoutError
  | protocolError
deriving DecidableEq, Repr

/-- The number of an error in `ERR` (R210, D11). -/
def ErrorCode.code : ErrorCode → Nat
  | .none => 0
  | .driverError => 1
  | .deviceNotFoundError => 2
  | .rangeError => 3
  | .ioError => 4
  | .timeoutError => 5
  | .protocolError => 6

/-- Which step found a wrong byte count (R210, row 4). -/
inductive IoStep where
  | transmit
  | receive
deriving DecidableEq, Repr

/-- The contents of `ERR_INFO` (R210, D22). -/
inductive ErrorInfo where
  /-- `DriverError`: the vendor status code -/
  | status (st : Status)
  /-- `IoError`: the step, the expected count, the actual count -/
  | counts (step : IoStep) (expected actual : Nat)
  /-- `ProtocolError`: the text "ack check failed" and the offending byte -/
  | ackCheckFailed (value : Byte)
deriving DecidableEq, Repr

/-- One returned transport or clock call with its arguments and its answer (R190 to R200): a line of a call trace. -/
inductive Call where
  | enumerateCount (st : Status) (count : Nat)
  | enumerateDescriptor (index : Nat) (field : DescriptorField) (st : Status) (value : Str)
  | openDevice (index : Nat) (st : Status) (handle : Handle)
  | close (handle : Handle) (st : Status)
  | setTimeouts (handle : Handle) (readMs writeMs : Nat) (st : Status)
  | flushBuffers (handle : Handle) (st : Status)
  | write (handle : Handle) (bytes : List Byte) (st : Status) (written : Nat)
  | checkQueueStatus (handle : Handle) (st : Status) (available : Nat) (code : Int)
  | read (handle : Handle) (count : Nat) (st : Status) (bytes : List Byte)
  | sleepMs (ms : Nat)
deriving DecidableEq, Repr

/-- The answers the transport will give, for each primitive the list of its answers, next first (R190 to R199): the
oracle of R10 as data. A call whose list is empty has not returned (U19). A statement about every state is a
statement about every answer. -/
structure Transport where
  counts : List (Status × Nat)
  descriptors : List (Status × Str)
  opens : List (Status × Handle)
  closes : List Status
  timeouts : List Status
  flushes : List Status
  writes : List (Status × Nat)
  queueStatus : List (Status × Nat × Int)
  reads : List (Status × List Byte)
deriving DecidableEq, Repr

/-- A transport that has answered nothing yet and has nothing to answer. -/
def Transport.empty : Transport :=
  { counts := [], descriptors := [], opens := [], closes := [], timeouts := [], flushes := [], writes := [],
    queueStatus := [], reads := [] }

/-- The registers an operation can find without a value (R21). -/
inductive RegName where
  | devIndex
  | handle
  | devAddr
  | regAddr
  | length
  | payload
  | selIndex
  | selSerial
  | txbuf
  | rxbuf
  | scanIdx
  | pollCnt
deriving DecidableEq, Repr

/-- The state. "Holds no value" is a state the spec itself gives a register (R21), written `none`. -/
@[ext]
structure State where
  /-- `CR0 CONFIGURED` (R22) -/
  configured : Bool
  /-- `CR1 DEV_INDEX` (R23) -/
  devIndex : Option Nat
  /-- `CR2 HANDLE` (R24) -/
  handle : Option Handle
  /-- `CR3 OPEN` (R25) -/
  isOpen : Bool
  /-- the parameters of R7; `CR4 READ_TIMEOUT_MS` and `CR5 WRITE_TIMEOUT_MS` are hardwired to two of them (R26) -/
  params : Params
  /-- `OP` (R28) -/
  op : Option HostOp
  /-- `DEV_ADDR` (R28) -/
  devAddr : Option Byte
  /-- `REG_ADDR` (R28) -/
  regAddr : Option Byte
  /-- `LENGTH` (R28) -/
  length : Option Half
  /-- `PAYLOAD` (R28) -/
  payload : Option (List Byte)
  /-- `SEL_INDEX` (R28) -/
  selIndex : Option Int
  /-- `SEL_SERIAL` (R28) -/
  selSerial : Option Str
  /-- `ERR` (R29) -/
  err : ErrorCode
  /-- `ERR_INFO` (R29, R210) -/
  errInfo : Option ErrorInfo
  /-- `CLOSE_ERR` (R29) -/
  closeErr : Status
  /-- `BYTES_WRITTEN` (R29) -/
  bytesWritten : Option Nat
  /-- `RDATA` (R29) -/
  rdata : Option (List Byte)
  /-- `PHASE` (R30) -/
  phase : Phase
  /-- `POLL_CNT` (R32) -/
  pollCnt : Option Nat
  /-- `SCAN_IDX` (R32) -/
  scanIdx : Option Nat
  /-- `TXBUF` (R33) -/
  txbuf : Option (List Byte)
  /-- `RXBUF` (R33) -/
  rxbuf : Option (List Byte)
  /-- `QSTATUS` (R34) -/
  qstatus : Option Int
  /-- model's own: the count `ENUMERATE` returned to the select operation (R110) -/
  scanCount : Option Nat
  /-- model's own: `found` of the serial scan (R112) -/
  scanFound : Option Nat
  /-- model's own: inside `OPEN_SESSION`, `open` has returned 0 and `set_timeouts` has not returned yet (R125) -/
  setTimeoutsDue : Bool
  /-- model's own: the count `TRANSMIT` returned (R173), which becomes `BYTES_WRITTEN` (R140, step 8) -/
  writeCount : Option Nat
  /-- model's own: the value `SUM8` returned (R170) -/
  checksum : Option Byte
  /-- model's own: how many free values have been drawn (U6) -/
  draws : Nat
  /-- model's own: the operations the host is going to issue, next first (R202) -/
  requests : List Instr
  /-- model's own: the answers of the transport (R190) -/
  transport : Transport
  /-- model's own: the injected clock `CLK` of R7: how many of its coming calls return (R200); at 0 the next one has not
  returned (D25, U19) -/
  clock : Nat
  /-- model's own: the transport and clock calls that have returned, first first (R30, R200) -/
  calls : List Call
deriving DecidableEq, Repr

/-- Reset (R37, R240): every register at its value of the table of R37; no request, no answer and no call yet. -/
def State.reset : State :=
  { configured := false, devIndex := none, handle := none, isOpen := false, params := Params.default,
    op := none, devAddr := none, regAddr := none, length := none, payload := none, selIndex := none, selSerial := none,
    err := .none, errInfo := none, closeErr := 0, bytesWritten := none, rdata := none,
    phase := .idle, pollCnt := none, scanIdx := none, txbuf := none, rxbuf := none, qstatus := none,
    scanCount := none, scanFound := none, setTimeoutsDue := false, writeCount := none, checksum := none,
    draws := 0, requests := [], transport := Transport.empty, clock := 0, calls := [] }

/-- `CR4 READ_TIMEOUT_MS`, hardwired (R26). -/
def State.readTimeoutMs (s : State) : Nat := s.params.readTimeoutMs

/-- `CR5 WRITE_TIMEOUT_MS`, hardwired (R26). -/
def State.writeTimeoutMs (s : State) : Nat := s.params.writeTimeoutMs

/-- `CR6 POLL_LIMIT`, hardwired to 100 (R27). -/
def State.pollLimit (_ : State) : Nat := Config.pollLimit

/-- `CR7 POLL_INTERVAL_MS`, hardwired to 1 (R27). -/
def State.pollIntervalMs (_ : State) : Nat := Config.pollIntervalMs

/-- The machine never stops with a fault: every error of the spec is recorded in `ERR` and the block goes on (R214),
and a call that does not return leaves the block waiting, not ended (U19). No constructor. -/
inductive Fault where
deriving DecidableEq, Repr

/-- Why a request, or a step in a state no run reaches, has no meaning. -/
inductive Refusal where
  /-- Raised by `exec`'s arm of an instruction without a meaning; no arm of this model raises it. Safe. -/
  | notModelled (mnemonic : String)
  /-- Raised by the five host operations while `PHASE` is not `IDLE` (R62, R244), and by `TRANSACT` run in a phase of a
  select (log entry 18). Safe. -/
  | busy
  /-- Raised by a transaction while `CONFIGURED = 0` (R115). Safe. -/
  | unconfigured
  /-- Raised by a select operation while `CONFIGURED = 1` (R116). Safe. -/
  | alreadyConfigured
  /-- Raised by a transaction whose operands do not fit their fields or exceed `MAX_WRITE_PAYLOAD` (R93). Safe. -/
  | unencodable
  /-- Raised by the fetch of a request that is no host operation: the host cannot issue it (R110, D18). Safe. -/
  | notIssuable
  /-- Raised by an operation that would read a register which holds no value, as R21 has it: such a register "has no
  value: a model must not give it zero or any other value, and an operation that would read it is refused"; so D14. Safe. -/
  | noValue (register : RegName)
  /-- Raised when `OP` names no operation that what is run belongs to: a response row, `TRANSACT`, `ACKCHECK` on a buffer
  without an offset 7 (R89, R127, R176); a step in `ENUM_COUNT` with the count there and no select in `OP`; a step in
  `BUILD`, `RECEIVING` or `CHECKING` with no transaction in `OP` (log entry 17). Safe. -/
  | notAwaited
deriving DecidableEq, Repr

/-- What one step, or one instruction, answers. -/
abbrev Result := Host.Outcome State Fault Refusal

end Sys2Proof.Machine
end

