-- ==== Sys2Proof/Machine/Flags.lean ====
section
/-! DEFINITION. The conditions the sequencer tests: there are no arithmetic condition codes (R34), only the
transaction, close-due, ready, acknowledgement and poll-count tests. -/

namespace Sys2Proof.Machine

/-- The operation in progress is a transaction (R11, R127). -/
def isTransaction (s : State) : Bool :=
  match s.op with
  | some .writeRegisters => true
  | some .readRegisters => true
  | _ => false

/-- The close sequence is due after an error (R127, R214.3): the operation is a transaction, and the session is open,
or the `open` primitive itself failed and `CLOSE_AFTER_OPEN_FAILURE` is true. An error of the close sequence itself
finds `OPEN = 0` and `PHASE = CLOSING`, so it is never due twice. DESIGN CHOICE (log entry 17): the same test decides for
an error of a row run as an instruction of its own, so with an `OP` that names no transaction the block goes to `IDLE`. -/
def closeDue (s : State) : Bool :=
  isTransaction s && (s.isOpen || (decide (s.phase = .opening) && s.params.closeAfterOpenFailure))

/-- The queue status means "ready": equal to `READY_CODE`, every other code alike (R34, R174, U3). -/
def isReady (code : Int) : Bool := decide (code = Config.readyCode)

/-- The acknowledgement test of offset 7 (R176). -/
def ackOk (b : Byte) : Bool := decide (b = Config.ack)

/-- `POLL_CNT = POLL_LIMIT` (R174). -/
def pollsExhausted (polls : Nat) (s : State) : Bool := decide (polls = s.pollLimit)

/-- The phases of `POLL` (R30). -/
def inPoll (p : Phase) : Bool := decide (p = .polling) || decide (p = .waiting)

/-- The phases of the close sequence (R30). -/
def inClose (p : Phase) : Bool := decide (p = .reopening) || decide (p = .closing)

/-- The phases of a select operation (R30). -/
def inSelect (p : Phase) : Bool := decide (p = .enumCount) || decide (p = .enumDesc)

/-- The phases of a transaction (R31). -/
def inTransaction (p : Phase) : Bool := !decide (p = .idle) && !inSelect p

end Sys2Proof.Machine
end

