-- ==== Sys2Proof/WellFormed.lean ====
section
/-! DEFINITION. Which instructions are well formed: the operand ranges of R93 that do not depend on a parameter,
and the frame shapes of R82 and R175. -/

namespace Sys2Proof

/-- A host integer fits a byte (R93). -/
def fitsByte (v : Int) : Bool := decide (0 ≤ v) && decide (v < 256)

/-- A host integer fits the 16-bit `LENGTH` (R93). -/
def fitsHalf (v : Int) : Bool := decide (0 ≤ v) && decide (v < 65536)

/-- The operands fit their fields. For a write the length field bounds the payload (R84); the parameter
`MAX_WRITE_PAYLOAD` is checked when the operation is issued (`Machine.writeOperands`). A response has its seven
header bytes and at most 65535 payload bytes (R82); `RECEIVE` asks for 9 or 9 + N bytes (R175). -/
def Instr.wf : Instr → Bool
  | .writeRegisters dev reg payload =>
      fitsByte dev && fitsByte reg && payload.all fitsByte
        && decide (payload.length ≤ Config.maxEncodablePayload)
  | .readRegisters dev reg length => fitsByte dev && fitsByte reg && fitsHalf length
  | .responseToWrite header _ => decide (header.length = Config.ackOffset)
  | .responseToRead header payload _ =>
      decide (header.length = Config.ackOffset) && decide (payload.length < 65536)
  | .receive count =>
      decide (Config.respOverhead ≤ count) && decide (count < Config.respOverhead + 65536)
  | .selectIndex _ => true
  | .selectSerial _ => true
  | .enumerate => true
  | .discard => true
  | .openSession => true
  | .closeSession => true
  | .transact => true
  | .sum8 _ => true
  | .flush => true
  | .transmit => true
  | .poll => true
  | .ackCheck => true

end Sys2Proof
end

