-- ==== Sys2Proof/Decode.lean ====
section
/-! DEFINITION. The frame formats `W`, `R` and `A` of rules R80 to R92: field assembly, the checksum, the decoder
(total on any bytes, every rejection named), and after it the encoder, written from the same offset tables. -/

namespace Sys2Proof

/-! ## Fields -/

/-- `hi8(v) = v[15:8]` (R8). -/
def hi8 (v : Nat) : Byte := BitVec.ofNat 8 (v / 256)

/-- `lo8(v) = v[7:0]` (R8). -/
def lo8 (v : Nat) : Byte := BitVec.ofNat 8 v

/-- The 16-bit number whose wire bytes are `hi` then `lo`: big-endian (R50). -/
def be16 (hi lo : Byte) : Nat := hi.toNat * 256 + lo.toNat

/-- A host integer as a byte; none where it does not fit, never truncated (R93). -/
def toByte? (v : Int) : Option Byte :=
  if fitsByte v then some (BitVec.ofNat 8 v.toNat) else none

/-- A host integer as a 16-bit value; none where it does not fit (R93). -/
def toHalf? (v : Int) : Option Half :=
  if fitsHalf v then some (BitVec.ofNat 16 v.toNat) else none

/-- A host payload as bytes; none if any element does not fit (R93). -/
def toBytes? : List Int → Option (List Byte)
  | [] => some []
  | v :: vs =>
    match toByte? v, toBytes? vs with
    | some b, some bs => some (b :: bs)
    | _, _ => none

/-- The host integer of a byte. -/
def ofByte (b : Byte) : Int := Int.ofNat b.toNat

/-- `SUM8(B)`: the 8-bit accumulator starts at 0 and adds every byte, modulo 256 (R170). -/
def sum8 (bytes : List Byte) : Byte := bytes.foldl (fun acc b => acc + b) 0#8

/-- The bytes of a write request before its checksum (R80, R141): the length field is `L + 4`. -/
def bodyW (dev reg : Byte) (payload : List Byte) : List Byte :=
  [Config.sync, Config.sync, hi8 (payload.length + Config.lenBias), lo8 (payload.length + Config.lenBias),
    Config.cmdWrite, dev, reg] ++ payload

/-- The bytes of a read request before its checksum (R81, R156): the length field is the constant 6. -/
def bodyR (dev reg : Byte) (length : Half) : List Byte :=
  [Config.sync, Config.sync, hi8 Config.readLenField, lo8 Config.readLenField, Config.cmdRead, dev, reg,
    hi8 length.toNat, lo8 length.toNat]

/-- A request: its body and the checksum of all of it (R87). -/
def withChecksum (body : List Byte) : List Byte := body ++ [sum8 body]

/-- `build_W` (R141). -/
def buildW (dev reg : Byte) (payload : List Byte) : List Byte := withChecksum (bodyW dev reg payload)

/-- `build_R` (R156). -/
def buildR (dev reg : Byte) (length : Half) : List Byte := withChecksum (bodyR dev reg length)

/-! ## The decoder -/

/-- How the receiver of a frame knows what it is: a request is identified by its first five bytes (R88), a response
by position only, with the payload count the block computed from its own request (R82, R89). -/
inductive Channel where
  | request
  | responseToWrite
  | responseToRead (payloadLength : Nat)
deriving DecidableEq, Repr

/-- Why bytes are no frame. -/
inductive DecodeError where
  /-- fewer bytes than the smallest frame has -/
  | tooShort
  /-- the preamble is not `EF EF` (R80, R81) -/
  | badSync
  /-- the number of bytes is not the one the length field, or the request, gives (R89) -/
  | badLength
  /-- the command byte is neither `F0` nor `F1` (R88, R91) -/
  | unknownCommand (cmd : Byte)
  /-- the last byte of a request is not `SUM8` of the bytes before it (R87) -/
  | badChecksum
  /-- offset 7 of a response is not `E0`: the one illegal encoding of format `A` (R92) -/
  | badAck (value : Byte)
deriving DecidableEq, Repr

/-- Reading a request frame (R80, R81, R88, R89). -/
def decodeRequest (bytes : List Byte) : Except DecodeError Instr :=
  match bytes with
  | s0 :: s1 :: lenHigh :: lenLow :: cmd :: dev :: reg :: c0 :: rest =>
    if s0 ≠ Config.sync ∨ s1 ≠ Config.sync then .error .badSync
    else if bytes.length ≠ 4 + be16 lenHigh lenLow then .error .badLength
    else if bytes.getLast? ≠ some (sum8 bytes.dropLast) then .error .badChecksum
    else if cmd = Config.cmdWrite then
      .ok (.writeRegisters (ofByte dev) (ofByte reg) ((c0 :: rest).dropLast.map ofByte))
    else if cmd = Config.cmdRead then
      match rest with
      | [lengthLow, _] => .ok (.readRegisters (ofByte dev) (ofByte reg) (Int.ofNat (be16 c0 lengthLow)))
      | _ => .error .badLength
    else .error (.unknownCommand cmd)
  | _ => .error .tooShort

/-- Reading a response of `9 + payloadLength` bytes (R82, R90): the acknowledgement byte is at offset 7, the payload
from offset 8, the trailer last; only the acknowledgement is examined (R92). -/
def decodeResponse (payloadLength : Nat) (bytes : List Byte) : Except DecodeError (List Byte × List Byte × Byte) :=
  if bytes.length ≠ Config.respOverhead + payloadLength then .error .badLength
  else match bytes.drop Config.ackOffset with
    | a :: rest =>
      if a ≠ Config.ack then .error (.badAck a)
      else match rest.drop payloadLength with
        | [trailer] => .ok (bytes.take Config.ackOffset, rest.take payloadLength, trailer)
        | _ => .error .badLength
    | [] => .error .tooShort

/-- The decoder, by channel. -/
def decode (channel : Channel) (bytes : List Byte) : Except DecodeError Instr :=
  match channel with
  | .request => decodeRequest bytes
  | .responseToWrite =>
    match decodeResponse 0 bytes with
    | .ok (header, _, trailer) => .ok (.responseToWrite header trailer)
    | .error e => .error e
  | .responseToRead n =>
    match decodeResponse n bytes with
    | .ok (header, payload, trailer) => .ok (.responseToRead header payload trailer)
    | .error e => .error e

/-! ## The encoder -/

/-- The channel a frame of the instruction travels on. -/
def channelOf : Instr → Channel
  | .responseToWrite _ _ => .responseToWrite
  | .responseToRead _ payload _ => .responseToRead payload.length
  | _ => .request

/-- The frame of an instruction (R80, R81, R82): none for a row without a wire encoding and for operands that do
not fit their fields. -/
def encode : Instr → Option (List Byte)
  | .writeRegisters dev reg payload =>
    match toByte? dev, toByte? reg, toBytes? payload with
    | some d, some r, some p => if p.length ≤ Config.maxEncodablePayload then some (buildW d r p) else none
    | _, _, _ => none
  | .readRegisters dev reg length =>
    match toByte? dev, toByte? reg, toHalf? length with
    | some d, some r, some n => some (buildR d r n)
    | _, _, _ => none
  | .responseToWrite header trailer =>
    if header.length = Config.ackOffset then some (header ++ [Config.ack] ++ [trailer]) else none
  | .responseToRead header payload trailer =>
    if header.length = Config.ackOffset then some (header ++ [Config.ack] ++ payload ++ [trailer]) else none
  | _ => none

/-! ## Words of the opcode table -/

/-- The first `n` bytes of a frame written as one number: frame offset 0 is the most significant byte, as the
table's "unit" entries number it ("bit 39 of match/mask is bit 7 of frame offset 0"). -/
def wordBytes (n w : Nat) : List Byte :=
  (List.range n).map fun i => BitVec.ofNat 8 (w / 256 ^ (n - 1 - i))

/-- A list brought to `k` bytes, absent bytes being 0. -/
def padTo (k : Nat) (bytes : List Byte) : List Byte := (bytes ++ List.replicate k 0#8).take k

/-- The request frame a table word stands for. Operand bytes the word does not give are 0. The two fields the block
computes itself (a write's length field, the checksum: both without a mask bit in the table) are filled in where
the word gives them no bits; given bits are kept, and the decoder judges them. -/
def completeRequest (bytes : List Byte) : List Byte :=
  match bytes with
  | s0 :: s1 :: lenHigh :: lenLow :: cmd :: rest =>
    let n := if be16 lenHigh lenLow = 0 then Config.lenBias else be16 lenHigh lenLow
    let body := [s0, s1, hi8 n, lo8 n, cmd] ++ padTo (n - 2) rest
    match (rest.drop (n - 2)).head? with
    | some c => if c = 0#8 then withChecksum body else body ++ rest.drop (n - 2)
    | none => withChecksum body
  | _ => bytes

/-- The instruction of an opcode-table word of `nbits` bits. The width names the row: 40 the first five bytes of
a write request, 80 a whole read request, 72 (or the 16 its fixed bits take) a response to a write, 64 (or 8) the
header and acknowledgement of a response to a read, whose payload is then empty. Any other width is read as a
whole request. -/
def decodeTableWord (nbits w : Nat) : Option Instr :=
  let answer : Except DecodeError Instr :=
    if nbits = 72 ∨ nbits = 16 then decode .responseToWrite (wordBytes 9 w)
    else if nbits = 64 ∨ nbits = 8 then decode (.responseToRead 0) (wordBytes 8 w ++ [0#8])
    else decode .request (completeRequest (wordBytes (nbits / 8) w))
  match answer with
  | .ok i => some i
  | .error _ => none

end Sys2Proof
end

