-- ==== Sys2Proof/Machine/Operands.lean ====
section
/-! DEFINITION. Operands: the one read of a register that may hold no value (R21), which host values fit their registers
(R28, R84, R93), the strings of the serial match (R112), and the byte counts and channels the block derives from its own
request (R89). -/

namespace Sys2Proof.Machine

/-- THE READ OF A REGISTER THAT MAY HOLD NO VALUE. R21: "A register that nothing has written since reset, or whose rule
says it 'holds no value', has no value: a model must not give it zero or any other value, and an operation that would
read it is refused." So D14. -/
def held {α : Type} (register : RegName) (value : Option α) : Except Refusal α :=
  match value with
  | some a => .ok a
  | none => .error (.noValue register)

/-- An operation that goes on with what it reads, or is refused (R21). -/
def reading {α : Type} (register : RegName) (value : Option α) (f : α → Result) : Result :=
  match held register value with
  | .ok a => f a
  | .error r => .refused r

/-- A payload that a write can carry: neither longer than the parameter nor than the length field allows (R84, R93,
D4). -/
abbrev PayloadFits (p : Params) (bytes : List Byte) : Prop :=
  bytes.length ≤ p.maxWritePayload ∧ bytes.length ≤ Config.maxEncodablePayload

/-- The operands of `WRITE_REGISTERS` as register values; none where R93 refuses: an address or a payload element
that is no byte, or a payload longer than `MAX_WRITE_PAYLOAD` or than the length field can carry (R84, D4). -/
def writeOperands (p : Params) (dev reg : Int) (payload : List Int) : Option (Byte × Byte × List Byte) :=
  match toByte? dev, toByte? reg, toBytes? payload with
  | some d, some r, some bytes =>
    if PayloadFits p bytes then some (d, r, bytes) else none
  | _, _, _ => none

/-- The operands of `READ_REGISTERS` as register values; none where R93 refuses. -/
def readOperands (dev reg length : Int) : Option (Byte × Byte × Half) :=
  match toByte? dev, toByte? reg, toHalf? length with
  | some d, some r, some n => some (d, r, n)
  | _, _, _ => none

/-- The body of the request that `OP` and the operand registers describe (R141, R156), or why it is refused: `OP` names
no transaction (R127), an operand register holds no value (R21), or the payload is not encodable (R93). The other operand
registers hold nothing that is not, by their widths (R28). -/
def requestBody (s : State) : Except Refusal (List Byte) :=
  match s.op with
  | some .writeRegisters => do
    let d ← held .devAddr s.devAddr
    let r ← held .regAddr s.regAddr
    let bytes ← held .payload s.payload
    if PayloadFits s.params bytes then .ok (bodyW d r bytes) else .error .unencodable
  | some .readRegisters => do
    let d ← held .devAddr s.devAddr
    let r ← held .regAddr s.regAddr
    let n ← held .length s.length
    .ok (bodyR d r n)
  | _ => .error .notAwaited

/-- The count that `TRANSMIT` returned for a write, which is its result; where none was kept it is `L + 8`, since step 4
has required it to be that (R142). -/
def writtenCount (s : State) : Except Refusal Nat :=
  match s.writeCount with
  | some n => .ok n
  | none => (held .payload s.payload).map fun bytes => bytes.length + 8

/-- The white space that `trim` removes: space and the codes 0x09 to 0x0D (R112). -/
def isSpace (c : Nat) : Bool := decide (c = 0x20) || (decide (0x09 ≤ c) && decide (c ≤ 0x0D))

/-- `trim(s)`: without the white space at both ends (R112). -/
def trim (s : Str) : Str := ((s.dropWhile isSpace).reverse.dropWhile isSpace).reverse

/-- `'A'..'Z'` to `'a'..'z'`, every other character unchanged (R112). -/
def lowerChar (c : Nat) : Nat := if 0x41 ≤ c ∧ c ≤ 0x5A then c + 0x20 else c

/-- `norm(s) = lower_ascii(trim(s))` (R112). -/
def normalise (s : Str) : Str := (trim s).map lowerChar

/-- The index test of the construction contract, `0 <= index < deviceCount` (R111). -/
def indexInRange (index : Int) (count : Nat) : Bool := decide (0 ≤ index) && decide (index < Int.ofNat count)

/-- How many payload bytes the response to the operation in progress carries: none for a write, `LENGTH` for a read
(R82). -/
def responsePayload (s : State) : Except Refusal Nat :=
  match s.op with
  | some .writeRegisters => .ok 0
  | some .readRegisters => (held .length s.length).map BitVec.toNat
  | _ => .error .notAwaited

/-- The channel on which the operation in progress receives (R89). -/
def responseChannel (s : State) (payloadLength : Nat) : Channel :=
  match s.op with
  | some .readRegisters => .responseToRead payloadLength
  | _ => .responseToWrite

end Sys2Proof.Machine
end

