-- ==== Sys2Proof/Machine/Ops.lean ====
section
/-! DEFINITION. The shared operations: taking an error (R214) and the return to `IDLE` (R216), the reads of the
session registers (R21), and one operation for each transport and clock call (R190 to R200). -/

namespace Sys2Proof.Machine

/-- One result after another. -/
def andThen (r : Result) (f : State → Result) : Result :=
  match r with
  | .next s => f s
  | .fault e => .fault e
  | .refused e => .refused e

/-! ## The end of an operation and the abort -/

/-- `phase <- P` (R8). -/
def goTo (p : Phase) (s : State) : State := { s with phase := p }

/-- `PHASE` returns to `IDLE`: the transient registers hold no value between operations (R32, R33, R34, R37). The
result, operand and control registers keep theirs (R29). -/
def goIdle (s : State) : State :=
  { s with
    phase := .idle, pollCnt := none, scanIdx := none, txbuf := none, rxbuf := none, qstatus := none,
    scanCount := none, scanFound := none, setTimeoutsDue := false, writeCount := none, checksum := none }

/-- What issuing an operation does to the result registers (R29): `ERR` and `CLOSE_ERR` to 0, the others to "holds
no value". -/
def clearResults (s : State) : State :=
  { s with err := .none, errInfo := none, closeErr := 0, bytesWritten := none, rdata := none }

/-- The first error of an operation is its outcome; a later one changes nothing here (R214.2, D12). -/
def recordError (e : ErrorCode) (info : Option ErrorInfo) (s : State) : State :=
  if s.err = .none then { s with err := e, errInfo := info, bytesWritten := none, rdata := none } else s

/-- The close sequence is entered; the buffers and the signal of the step that ended hold no value (R33, R34). -/
def enterClose (s : State) : State :=
  { s with phase := .reopening, txbuf := none, rxbuf := none, qstatus := none, setTimeoutsDue := false }

/-- TAKING AN ERROR: `raise E(info)` (R214). The step ends, the error is recorded if it is the first, the close
sequence follows if it is due, else `PHASE` goes to `IDLE` and the host has control. -/
def raise (e : ErrorCode) (info : Option ErrorInfo) (s : State) : State :=
  if closeDue s then enterClose (recordError e info s) else goIdle (recordError e info s)

/-- `raise DriverError(st)` (R190, R210). -/
def raiseDriver (st : Status) (s : State) : State := raise .driverError (some (.status st)) s

/-- `raise IoError` with the step and the two counts (R210, D22). -/
def raiseIo (step : IoStep) (expected actual : Nat) (s : State) : State :=
  raise .ioError (some (.counts step expected actual)) s

/-- The operation that is beginning: result registers cleared, first phase entered (R29, R66, R127). -/
def beginOperation (first : Phase) (s : State) : State := { clearResults s with phase := first }

/-- A select operation succeeds: `DEV_INDEX` and `CONFIGURED` written, `PHASE` to `IDLE` (R111, R112). -/
def configure (index : Nat) (s : State) : State :=
  goIdle { s with devIndex := some index, configured := true }

/-- The session's handle: valid only while `OPEN = 1`; an operation that would read it otherwise is refused (R21,
R24). -/
def withSession (s : State) (f : Handle → Result) : Result :=
  reading .handle (if s.isOpen then s.handle else none) f

/-- `SUM8` evaluated: its return value, no register of the spec (R170). -/
def computeSum8 (bytes : List Byte) (s : State) : State := { s with checksum := some (sum8 bytes) }

/-- `TXBUF` receives a request: its body, then the checksum that `SUM8` returned for it (R141, R156). -/
def loadRequest (body : List Byte) (s : State) : State :=
  let s1 := computeSum8 body s
  { s1 with txbuf := some (body ++ s1.checksum.toList), phase := .flushing }

/-! ## The calls

Each operation takes the transport's next answer, records the returned call, and gives the answer and the state
after it; none where the call has not returned (U19). -/

/-- A returned call is appended to the trace. -/
def record (c : Call) (s : State) : State := { s with calls := s.calls ++ [c] }

/-- `T.enumerate_count()` (R191). -/
def callEnumerateCount (s : State) : Option ((Status × Nat) × State) :=
  match s.transport.counts with
  | [] => none
  | a :: rest =>
    some (a, record (.enumerateCount a.1 a.2) { s with transport := { s.transport with counts := rest } })

/-- `T.enumerate_descriptor(index, FIELD_SERIAL)` (R192). -/
def callEnumerateDescriptor (index : Nat) (s : State) : Option ((Status × Str) × State) :=
  match s.transport.descriptors with
  | [] => none
  | a :: rest =>
    some (a, record (.enumerateDescriptor index .serial a.1 a.2)
      { s with transport := { s.transport with descriptors := rest } })

/-- `T.open(index)` (R193). -/
def callOpen (index : Nat) (s : State) : Option ((Status × Handle) × State) :=
  match s.transport.opens with
  | [] => none
  | a :: rest =>
    some (a, record (.openDevice index a.1 a.2) { s with transport := { s.transport with opens := rest } })

/-- `T.close(handle)` (R194). -/
def callClose (h : Handle) (s : State) : Option (Status × State) :=
  match s.transport.closes with
  | [] => none
  | st :: rest => some (st, record (.close h st) { s with transport := { s.transport with closes := rest } })

/-- `T.set_timeouts(handle, READ_TIMEOUT_MS, WRITE_TIMEOUT_MS)` (R195). -/
def callSetTimeouts (h : Handle) (s : State) : Option (Status × State) :=
  match s.transport.timeouts with
  | [] => none
  | st :: rest =>
    some (st, record (.setTimeouts h s.readTimeoutMs s.writeTimeoutMs st)
      { s with transport := { s.transport with timeouts := rest } })

/-- `T.flush_buffers(handle)` (R196). -/
def callFlushBuffers (h : Handle) (s : State) : Option (Status × State) :=
  match s.transport.flushes with
  | [] => none
  | st :: rest =>
    some (st, record (.flushBuffers h st) { s with transport := { s.transport with flushes := rest } })

/-- `T.write(handle, bytes)` (R197). -/
def callWrite (h : Handle) (bytes : List Byte) (s : State) : Option ((Status × Nat) × State) :=
  match s.transport.writes with
  | [] => none
  | a :: rest =>
    some (a, record (.write h bytes a.1 a.2) { s with transport := { s.transport with writes := rest } })

/-- `T.check_queue_status(handle)` (R198): status, `bytes_available`, status code. -/
def callCheckQueueStatus (h : Handle) (s : State) : Option ((Status × Nat × Int) × State) :=
  match s.transport.queueStatus with
  | [] => none
  | a :: rest =>
    some (a, record (.checkQueueStatus h a.1 a.2.1 a.2.2)
      { s with transport := { s.transport with queueStatus := rest } })

/-- `T.read(handle, n)` (R199). -/
def callRead (h : Handle) (count : Nat) (s : State) : Option ((Status × List Byte) × State) :=
  match s.transport.reads with
  | [] => none
  | a :: rest =>
    some (a, record (.read h count a.1 a.2) { s with transport := { s.transport with reads := rest } })

/-- `CLK.sleep_ms(n)`: recorded when it returns; no status, no failure, no other effect (R200, D25). -/
def callSleep (ms : Nat) (s : State) : Option State :=
  match s.clock with
  | 0 => none
  | later + 1 => some (record (.sleepMs ms) { s with clock := later })

end Sys2Proof.Machine
end

