-- ==== Sys2Proof/Machine/Construction.lean ====
section
/-! DEFINITION. Construction (R110 to R113) and discard (R114), one call at a time. -/

namespace Sys2Proof.Machine

/-- The call of `ENUM_COUNT`: the count is returned to the select operation (R110). -/
def enumerateCall (s : State) : Result :=
  match callEnumerateCount s with
  | none => .next s
  | some ((st, count), s1) =>
    .next (if st ≠ 0 then raiseDriver st s1 else { s1 with scanCount := some count })

/-- `ENUMERATE` (R110). -/
def execEnumerate (s : State) : Result := enumerateCall (goTo .enumCount s)

/-- What the select operation does with the count: the range test of `SELECT_INDEX` (R111), or the start of the scan
of `SELECT_SERIAL` (R112). DESIGN CHOICE (log entry 14): with a count of 0, for which R112's loop enters no `ENUM_DESC`,
`PHASE` is `ENUM_DESC` with `SCAN_IDX = 0` while the decision is due. DESIGN CHOICE (log entry 17): where `OP` names no
select, as after `ENUMERATE` run as an instruction of its own from reset, no rule says what is done with the count, and
the step is refused. -/
def selectDecision (count : Nat) (s : State) : Result :=
  match s.op with
  | some .selectIndex =>
    reading .selIndex s.selIndex fun index =>
      .next (if indexInRange index count then configure index.toNat s else raise .rangeError none s)
  | some .selectSerial => .next { s with phase := .enumDesc, scanIdx := some 0, scanFound := none }
  | _ => .refused .notAwaited

/-- A step in `ENUM_COUNT`: the call where no count is there yet, else the decision on it. -/
def countCall (s : State) : Result :=
  match s.scanCount with
  | none => enumerateCall s
  | some count => selectDecision count s

/-- After the descriptor of index `i` has been read: the lowest matching index is kept, the scan moves on (R112). DESIGN
CHOICE (log entry 14): after the last device, where R32 and R112 give `SCAN_IDX` no value, it is the count while the
decision is due. -/
def scanned (want value : Str) (i : Nat) (s : State) : State :=
  { s with
    scanFound := if s.scanFound = none ∧ normalise value = normalise want then some i else s.scanFound
    scanIdx := some (i + 1) }

/-- The end of the scan (R112). -/
def scanDecision (s : State) : State :=
  match s.scanFound with
  | some found => configure found s
  | none => raise .deviceNotFoundError none s

/-- A step in `ENUM_DESC`: the next descriptor, in ascending order and every one of them; after the last the
decision (R112, D13). DESIGN CHOICE (log entry 12): where the model's own count is not there, which no run reaches, the
count call comes first, as in R112's first line. -/
def descriptorCall (s : State) : Result :=
  reading .scanIdx s.scanIdx fun i =>
  reading .selSerial s.selSerial fun want =>
  match s.scanCount with
  | none => enumerateCall s
  | some count =>
    if i < count then
      match callEnumerateDescriptor i s with
      | none => .next s
      | some ((st, value), s1) => .next (if st ≠ 0 then raiseDriver st s1 else scanned want value i s1)
    else .next (scanDecision s)

/-- The issue of `SELECT_INDEX` (R111, R116, R244). -/
def issueSelectIndex (index : Int) (s : State) : Result :=
  if s.phase ≠ .idle then .refused .busy
  else if s.configured then .refused .alreadyConfigured
  else .next (beginOperation .enumCount { s with op := some .selectIndex, selIndex := some index })

/-- The issue of `SELECT_SERIAL` (R112, R116, R244). -/
def issueSelectSerial (serial : Str) (s : State) : Result :=
  if s.phase ≠ .idle then .refused .busy
  else if s.configured then .refused .alreadyConfigured
  else .next (beginOperation .enumCount { s with op := some .selectSerial, selSerial := some serial })

/-- Every register at its reset value (R37, R114). What is not the block's stays: the parameters, the host's
requests, the transport, the clock, the trace, and the count of free values drawn (R20, R240). -/
def discarded (s : State) : State :=
  { State.reset with
    params := s.params, draws := s.draws, requests := s.requests, transport := s.transport, clock := s.clock,
    calls := s.calls }

/-- `DISCARD` (R114): no transport call. -/
def execDiscard (s : State) : Result :=
  if s.phase ≠ .idle then .refused .busy else .next (discarded s)

end Sys2Proof.Machine
end

