-- ==== Sys2Proof/Machine/Session.lean ====
section
/-! DEFINITION. The calls of the session discipline, one call at a time: opening (R125) and the close sequence
(R126). -/

namespace Sys2Proof.Machine

/-- What one call of an open attempt came to: not returned yet, failed with a vendor status, done, or refused. -/
inductive Attempt where
  | blocked
  | failed (st : Status) (s : State)
  | done (s : State)
  | refused (r : Refusal)

/-- `T.open(DEV_INDEX)`; on status 0 `HANDLE` and `OPEN` are written at once (R125, D9). -/
def openPrimitive (s : State) : Attempt :=
  match held .devIndex s.devIndex with
  | .error r => .refused r
  | .ok index =>
    match callOpen index s with
    | none => .blocked
    | some ((st, h), s1) => if st ≠ 0 then .failed st s1 else .done { s1 with handle := some h, isOpen := true }

/-- `T.set_timeouts` of the session just opened; `OPEN` stays 1 whatever it answers (R125). -/
def setTimeoutsPrimitive (s : State) : Attempt :=
  match held .handle s.handle with
  | .error r => .refused r
  | .ok h =>
    match callSetTimeouts h s with
    | none => .blocked
    | some (st, s1) =>
      if st ≠ 0 then .failed st { s1 with setTimeoutsDue := false } else .done { s1 with setTimeoutsDue := false }

/-- One call of `OPEN_SESSION` (R125): `set_timeouts` where it is due; no call where `OPEN = 1`; else `open`, after
which `set_timeouts` is due. DESIGN CHOICE (log entries 12 and 17): the position between the two calls is the model's own
field, so where it is set `OPEN_SESSION`, run as an instruction too, goes on with `set_timeouts` although `OPEN = 1`,
where R125 taken from its first line returns at once. -/
def openSessionCall (s : State) : Attempt :=
  if s.setTimeoutsDue then setTimeoutsPrimitive s
  else if s.isOpen then .done s
  else match openPrimitive s with
    | .done s1 => .done { s1 with setTimeoutsDue := true }
    | r => r

/-- One call in `OPENING`: an error aborts (R214); the body starts when nothing more is due (R127). -/
def openCall (s : State) : Result :=
  match openSessionCall s with
  | .blocked => .next s
  | .failed st s1 => .next (raiseDriver st s1)
  | .done s1 => .next (if s1.setTimeoutsDue then s1 else goTo .build s1)
  | .refused r => .refused r

/-- One call in `REOPENING`, the best-effort open: its errors are discarded (R126). By the flag it is
`OPEN_SESSION`; with `REOPEN_IN_CLOSE = always` it is one `T.open` without `set_timeouts` (D8, D26). -/
def reopenCall (s : State) : Result :=
  match s.params.reopenInClose with
  | .viaFlag =>
    match openSessionCall s with
    | .blocked => .next s
    | .failed _ s1 => .next (goTo .closing s1)
    | .done s1 => .next (if s1.setTimeoutsDue then s1 else goTo .closing s1)
    | .refused r => .refused r
  | .always =>
    match openPrimitive s with
    | .blocked => .next s
    | .failed _ s1 => .next (goTo .closing s1)
    | .done s1 => .next (goTo .closing s1)
    | .refused r => .refused r

/-- The argument of `T.close`: `HANDLE`, or a free value where it holds none (R126 (c), U6). -/
def closeHandle (s : State) : Handle := s.handle.getD (Config.freeHandle s.draws)

/-- After `T.close` has returned: `CLOSE_ERR` is its status, `OPEN = 0` and `HANDLE` holds no value, whatever the
status (R126, D10). A free value that was used is spent. -/
def sessionClosed (st : Status) (draws : Nat) (s : State) : State :=
  { s with closeErr := st, isOpen := false, handle := none, draws := draws }

/-- One call in `CLOSING` (R126); its failure is the operation's outcome only if there was none before (R127). -/
def closeCall (s : State) : Result :=
  match callClose (closeHandle s) s with
  | none => .next s
  | some (st, s1) =>
    let s2 := sessionClosed st (if s.handle = none then s.draws + 1 else s.draws) s1
    .next (if st ≠ 0 then raiseDriver st s2 else goIdle s2)

end Sys2Proof.Machine
end

