-- ==== Sys2Proof/Machine/Handshake.lean ====
section
/-! DEFINITION. The checksum (R170) and the handshake micro-steps (R172 to R176), one call at a time, and the
meanings that make at most one call. -/

namespace Sys2Proof.Machine

/-- `SUM8(B)`: the returned value; no register of the spec is written (R170). -/
def execSum8 (bytes : List Byte) (s : State) : Result := .next (computeSum8 bytes s)

/-- The call of `FLUSHING` (R172). -/
def flushCall (s : State) : Result :=
  withSession s fun h =>
    match callFlushBuffers h s with
    | none => .next s
    | some (st, s1) => .next (if st ≠ 0 then raiseDriver st s1 else goTo .transmitting s1)

/-- `FLUSH` (R172). -/
def execFlush (s : State) : Result := flushCall (goTo .flushing s)

/-- After a complete transmission: the count is kept for the result, `TXBUF` holds no value, polling starts with
`POLL_CNT = 0` (R32, R33, R173). -/
def transmitted (written : Nat) (s : State) : State :=
  { s with writeCount := some written, txbuf := none, pollCnt := some 0, qstatus := none, phase := .polling }

/-- The call of `TRANSMITTING`: status before count (R173, R215). -/
def transmitCall (s : State) : Result :=
  reading .txbuf s.txbuf fun frame =>
    withSession s fun h =>
      match callWrite h frame s with
      | none => .next s
      | some ((st, n), s1) =>
        .next (if st ≠ 0 then raiseDriver st s1
          else if n ≠ frame.length then raiseIo .transmit frame.length n s1
          else transmitted n s1)

/-- `TRANSMIT(TXBUF)` (R173). -/
def execTransmit (s : State) : Result := transmitCall (goTo .transmitting s)

/-- After a returned `check_queue_status`: one poll more than `polls` is counted, `QSTATUS` is its code (R174). -/
def polled (polls : Nat) (code : Int) (s : State) : State :=
  { s with pollCnt := some (polls + 1), qstatus := some code }

/-- The decision on a poll whose vendor status was 0: ready, or wait (R174). `QSTATUS` holds no value outside
`POLLING` (R34). -/
def pollDecided (code : Int) (s : State) : State :=
  { s with qstatus := none, phase := if isReady code then .receiving else .waiting }

/-- A step in `POLLING`: the call where `QSTATUS` holds no value, else the decision on it (R174). The call counts on
from `POLL_CNT`; where that holds no value the step is refused (R21). -/
def pollCall (s : State) : Result :=
  match s.qstatus with
  | some code => .next (pollDecided code s)
  | none =>
    reading .pollCnt s.pollCnt fun polls =>
      withSession s fun h =>
        match callCheckQueueStatus h s with
        | none => .next s
        | some ((st, _, code), s1) =>
          .next (if st ≠ 0 then raiseDriver st (polled polls code s1) else polled polls code s1)

/-- The step in `WAITING`: the sleep after an unsuccessful poll, then, when it has returned, `TimeoutError` if the poll
was the last (R174). It reads `POLL_CNT`: refused where that holds no value (R21). -/
def waitCall (s : State) : Result :=
  reading .pollCnt s.pollCnt fun polls =>
    match callSleep s.pollIntervalMs s with
    | none => .next s
    | some s1 => .next (if pollsExhausted polls s1 then raise .timeoutError none s1 else goTo .polling s1)

/-- Where `POLL` starts: `POLL_CNT` is set to 0 (R174). DESIGN CHOICE (log entry 17): in its own phases it goes on with
the polls counted so far. -/
def pollEntry (s : State) : State :=
  if inPoll s.phase && s.pollCnt.isSome then s else { s with phase := .polling, pollCnt := some 0, qstatus := none }

/-- The call of `RECEIVING` for `count` bytes: status before count (R175, R215). -/
def receiveCall (count : Nat) (s : State) : Result :=
  withSession s fun h =>
    match callRead h count s with
    | none => .next s
    | some ((st, bytes), s1) =>
      .next (if st ≠ 0 then raiseDriver st s1
        else if bytes.length ≠ count then raiseIo .receive count bytes.length s1
        else { s1 with rxbuf := some bytes, phase := .checking })

/-- `RECEIVE(k)` (R175). -/
def execReceive (count : Nat) (s : State) : Result := receiveCall count (goTo .receiving s)

/-- The test of offset 7 (R176). A response too short to have that offset is the `IoError` of its count, as `RECEIVE`
would have found (log entry 23; V-E3: "count before ack; offset 7 is never read from a short buffer"). DESIGN CHOICE (log
entry 25): a buffer of exactly 8 bytes, outside R176's operand `len(B) >= 9`, has an offset 7, and that byte is tested; in
a run `RECEIVE` has turned it away before. -/
def ackCheckStep (s : State) : Result :=
  reading .rxbuf s.rxbuf fun bytes =>
    match bytes[Config.ackOffset]? with
    | none =>
      match responsePayload s with
      | .ok n => .next (raiseIo .receive (Config.respOverhead + n) bytes.length s)
      | .error r => .refused r
    | some b => .next (if ackOk b then s else raise .protocolError (some (.ackCheckFailed b)) s)

/-- `ACKCHECK(RXBUF)` (R176). -/
def execAckCheck (s : State) : Result := ackCheckStep (goTo .checking s)

end Sys2Proof.Machine
end

