-- ==== Sys2Proof/Machine/Transactions.lean ====
section
/-! DEFINITION. The parts of a transaction that make no call: the issue (R66, R93, R115, R127), the assembly of the
request (R141, R156), and what a response means to the operation that awaits it (R90, R142, R157). -/

namespace Sys2Proof.Machine

/-- The issue of `WRITE_REGISTERS`: refused while busy, unconfigured or with operands that do not fit; else the
operand registers are loaded and the session is about to be opened (R127, R140). -/
def issueWriteRegisters (dev reg : Int) (payload : List Int) (s : State) : Result :=
  if s.phase ≠ .idle then .refused .busy
  else if s.configured = false then .refused .unconfigured
  else match writeOperands s.params dev reg payload with
    | none => .refused .unencodable
    | some (d, r, bytes) =>
      .next (beginOperation .opening
        { s with op := some .writeRegisters, devAddr := some d, regAddr := some r, payload := some bytes })

/-- The issue of `READ_REGISTERS` (R127, R155). -/
def issueReadRegisters (dev reg length : Int) (s : State) : Result :=
  if s.phase ≠ .idle then .refused .busy
  else if s.configured = false then .refused .unconfigured
  else match readOperands dev reg length with
    | none => .refused .unencodable
    | some (d, r, n) =>
      .next (beginOperation .opening
        { s with op := some .readRegisters, devAddr := some d, regAddr := some r, length := some n })

/-- `BUILD`: `TXBUF` receives the request that the operand registers describe (R141, R156); one that cannot be encoded
is refused, never wrapped (R84, R93). -/
def buildCall (s : State) : Result :=
  match requestBody s with
  | .ok body => .next (loadRequest body s)
  | .error r => .refused r

/-- A response accepted: the close sequence follows, `RXBUF` holds no value any more (R33, R127). -/
def responseTaken (s : State) : State := { s with rxbuf := none, phase := .reopening }

/-- `RESPONSE_TO_WRITE`: a nine-byte frame with the acknowledgement, received for a `WRITE_REGISTERS`; any other
count is `IoError`; the result is the count the transport reported for the request (R89, R142, R176). DESIGN CHOICE
(log entry 17): run as an instruction it tests `OP` alone, neither `PHASE` nor `OPEN` nor `ERR`, and leaves `PHASE` at
`REOPENING`; the spec has a response only after `RECEIVE`, in `CHECKING`. -/
def execResponseToWrite (header : List Byte) (_trailer : Byte) (s : State) : Result :=
  match s.op with
  | some .writeRegisters =>
    if header.length ≠ Config.ackOffset then
      .next (raiseIo .receive Config.respOverhead (header.length + 2) s)
    else match writtenCount s with
      | .ok n => .next (responseTaken { s with bytesWritten := some n })
      | .error r => .refused r
  | _ => .refused .notAwaited

/-- `RESPONSE_TO_READ`: a frame of `9 + LENGTH` bytes with the acknowledgement, received for a `READ_REGISTERS`; any
other count is `IoError`; the result is the payload; header and trailer are dropped unexamined (R89, R92, R157). DESIGN
CHOICE (log entry 17): run as an instruction it tests `OP` and `LENGTH` alone, neither `PHASE` nor `OPEN` nor `ERR`, and
leaves `PHASE` at `REOPENING`. -/
def execResponseToRead (header payload : List Byte) (_trailer : Byte) (s : State) : Result :=
  match s.op with
  | some .readRegisters =>
    reading .length s.length fun n =>
      if header.length ≠ Config.ackOffset ∨ payload.length ≠ n.toNat then
        .next (raiseIo .receive (Config.respOverhead + n.toNat) (header.length + 2 + payload.length) s)
      else .next (responseTaken { s with rdata := some payload })
  | _ => .refused .notAwaited

/-- The response in `RXBUF` is decoded as what the operation in progress awaits, and taken (R90). Its count was
tested when it was received; a buffer of another length, which no run reaches, is the same `IoError`. -/
def takeResponse (s : State) : Result :=
  reading .rxbuf s.rxbuf fun bytes =>
    match responsePayload s with
    | .ok n =>
      match decode (responseChannel s n) bytes with
      | .ok (.responseToWrite header trailer) => execResponseToWrite header trailer s
      | .ok (.responseToRead header payload trailer) => execResponseToRead header payload trailer s
      | _ => .next (raiseIo .receive (Config.respOverhead + n) bytes.length s)
    | .error r => .refused r

/-- The step in `CHECKING`: the acknowledgement, then the result (R30, R176). -/
def checkCall (s : State) : Result :=
  andThen (ackCheckStep s) fun s1 => if s1.phase = .checking then takeResponse s1 else .next s1

/-- The call of `RECEIVING`: 9 bytes for a write, `9 + LENGTH` for a read (R89, R175). -/
def receiveResponse (s : State) : Result :=
  match responsePayload s with
  | .ok n => receiveCall (Config.respOverhead + n) s
  | .error r => .refused r

end Sys2Proof.Machine
end

