-- ==== Sys2Proof/Machine/Sequencer.lean ====
section
/-! DEFINITION. The sequencer (R10, R31): `callStep`, at most one transport or clock call (D24), and its iteration. -/

namespace Sys2Proof.Machine

/-- Issuing a request: the operand registers are sampled and `PHASE` leaves `IDLE` (R66, R202). A row that is no host
operation cannot be issued (R110, D18). -/
def issue (i : Instr) (s : State) : Result :=
  match i with
  | .writeRegisters dev reg payload => issueWriteRegisters dev reg payload s
  | .readRegisters dev reg length => issueReadRegisters dev reg length s
  | .selectIndex index => issueSelectIndex index s
  | .selectSerial serial => issueSelectSerial serial s
  | .discard => execDiscard s
  | .responseToWrite _ _ => .refused .notIssuable
  | .responseToRead _ _ _ => .refused .notIssuable
  | .enumerate => .refused .notIssuable
  | .openSession => .refused .notIssuable
  | .closeSession => .refused .notIssuable
  | .transact => .refused .notIssuable
  | .sum8 _ => .refused .notIssuable
  | .flush => .refused .notIssuable
  | .transmit => .refused .notIssuable
  | .poll => .refused .notIssuable
  | .receive _ => .refused .notIssuable
  | .ackCheck => .refused .notIssuable

/-- The part of an operation in progress that its `PHASE` names (R30, R31): at most one transport or clock call
(D24). It leaves the state as it is where that call has not returned (U19), and in `IDLE`. -/
def phaseStep (s : State) : Result :=
  match s.phase with
  | .idle => .next s
  | .enumCount => countCall s
  | .enumDesc => descriptorCall s
  | .opening => openCall s
  | .build => buildCall s
  | .flushing => flushCall s
  | .transmitting => transmitCall s
  | .polling => pollCall s
  | .waiting => waitCall s
  | .receiving => receiveResponse s
  | .checking => checkCall s
  | .reopening => reopenCall s
  | .closing => closeCall s

/-- Between operations the next request of the host is taken; without one the block waits in `IDLE` (R240, R241). -/
def takeRequest (run : Instr → State → Result) (s : State) : Result :=
  match s.requests with
  | [] => .next s
  | i :: rest => run i { s with requests := rest }

/-- THE CALL-LEVEL MACHINE (D24): one step is the issue of a request or one part of the operation in progress, so
at most one transport or clock call. -/
def callStep (s : State) : Result :=
  if s.phase = .idle then takeRequest issue s else phaseStep s

/-- A session is open and its handle is there (R21, R24). -/
def inSession (s : State) : Bool := s.isOpen && s.handle.isSome

/-- The next call of `OPEN_SESSION` has not returned (R125, U19). -/
def awaitingOpen (s : State) : Bool :=
  if s.setTimeoutsDue then s.handle.isSome && s.transport.timeouts.isEmpty
  else !s.isOpen && s.devIndex.isSome && s.transport.opens.isEmpty

/-- The call that `PHASE` makes next has not returned: the transport's answer to it is not there, or the clock's call
does not return (U19, D25). -/
def awaiting (s : State) : Bool :=
  match s.phase with
  | .idle => false
  | .enumCount => s.scanCount.isNone && s.transport.counts.isEmpty
  | .enumDesc =>
    match s.scanIdx, s.selSerial with
    | some i, some _ =>
      match s.scanCount with
      | none => s.transport.counts.isEmpty
      | some count => decide (i < count) && s.transport.descriptors.isEmpty
    | _, _ => false
  | .opening => awaitingOpen s
  | .build => false
  | .flushing => inSession s && s.transport.flushes.isEmpty
  | .transmitting => inSession s && s.txbuf.isSome && s.transport.writes.isEmpty
  | .polling => inSession s && s.qstatus.isNone && s.pollCnt.isSome && s.transport.queueStatus.isEmpty
  | .waiting => s.pollCnt.isSome && decide (s.clock = 0)
  | .receiving =>
    match responsePayload s with
    | .ok _ => inSession s && s.transport.reads.isEmpty
    | .error _ => false
  | .checking => false
  | .reopening =>
    match s.params.reopenInClose with
    | .viaFlag => awaitingOpen s
    | .always => s.devIndex.isSome && s.transport.opens.isEmpty
  | .closing => s.transport.closes.isEmpty

/-- The operation goes on, part by part, while its phase is one of `within` and its calls return: at most `fuel`
parts. -/
def runWhile (within : Phase → Bool) : Nat → State → Result
  | 0, s => .next s
  | fuel + 1, s =>
    if within s.phase && !awaiting s then andThen (phaseStep s) fun s1 => runWhile within fuel s1 else .next s

/-- How many parts `POLL` has at most: a call, a decision and a wait for each poll (R174, R177). -/
def pollParts : Nat := 3 * Config.pollLimit

/-- How many parts a transaction has at most (R201, R251): open and timeouts, build, flush, transmit, the polls,
receive, check, the close sequence's open, timeouts and close. -/
def transactionParts : Nat := 2 + 1 + 1 + 1 + pollParts + 1 + 1 + 3

/-- How many parts a select operation has at most: the count, its decision, one for each descriptor the transport
still answers, and the last decision. -/
def selectParts (s : State) : Nat := 2 + s.transport.descriptors.length + 2

end Sys2Proof.Machine
end

