-- ==== Sys2Proof/Machine/Operations.lean ====
section
/-! DEFINITION. The meanings that make more than one call: the operation's entry, then its parts one after another
until it is over, or until a call does not return (U19). -/

namespace Sys2Proof.Machine

/-- `OPEN_SESSION` (R125). DESIGN CHOICE (log entries 12 and 17): with `set_timeouts` due it goes on with that call. -/
def execOpenSession (s : State) : Result :=
  runWhile (fun p => decide (p = .opening)) 2 (goTo .opening s)

/-- Where the close sequence starts: its best-effort open comes first (R126). DESIGN CHOICE (log entry 17): in `CLOSING`
it goes on, without that open. -/
def closeEntry (s : State) : State := if s.phase = .closing then s else goTo .reopening s

/-- `CLOSE_SESSION` (R126). -/
def execCloseSession (s : State) : Result := runWhile inClose 3 (closeEntry s)

/-- `POLL` (R174). -/
def execPoll (s : State) : Result := runWhile inPoll pollParts (pollEntry s)

/-- A transaction from where it stands. -/
def runTransaction (s : State) : Result := runWhile inTransaction transactionParts s

/-- A select operation from where it stands. -/
def runSelect (s : State) : Result := runWhile inSelect (selectParts s) s

/-- Where `TRANSACT` starts (R127): from `IDLE` the issue, refused with `CONFIGURED = 0` (R115) and where the operands
cannot be encoded (R93), before any call; in a transaction under way it goes on. DESIGN CHOICE (log entries 17 and 18): the going
on, and that an `OP` which names no transaction, then a select's phase, are the first grounds of a refusal. -/
def transactEntry (s : State) : Result :=
  if isTransaction s = false then .refused .notAwaited
  else if s.phase = .idle then
    if s.configured = false then .refused .unconfigured
    else match requestBody s with
      | .ok _ => .next (beginOperation .opening s)
      | .error r => .refused r
  else if inSelect s.phase then .refused .busy
  else .next s

/-- `TRANSACT` (R127): the transaction that `OP` and the operand registers name. -/
def execTransact (s : State) : Result := andThen (transactEntry s) runTransaction

/-- `WRITE_REGISTERS` (R140). -/
def execWriteRegisters (dev reg : Int) (payload : List Int) (s : State) : Result :=
  andThen (issueWriteRegisters dev reg payload s) runTransaction

/-- `READ_REGISTERS` (R155). -/
def execReadRegisters (dev reg length : Int) (s : State) : Result :=
  andThen (issueReadRegisters dev reg length s) runTransaction

/-- `SELECT_INDEX` (R111). -/
def execSelectIndex (index : Int) (s : State) : Result := andThen (issueSelectIndex index s) runSelect

/-- `SELECT_SERIAL` (R112). -/
def execSelectSerial (serial : Str) (s : State) : Result := andThen (issueSelectSerial serial s) runSelect

end Sys2Proof.Machine
end

