-- ==== Sys2Proof/Machine/Dispatch.lean ====
section
/-! DEFINITION. The dispatch: one arm for each row of the opcode table. -/

namespace Sys2Proof.Machine

def exec (i : Instr) (s : State) : Host.Outcome State Fault Refusal :=
  match i with
  | .writeRegisters dev reg payload => Sys2Proof.Machine.execWriteRegisters dev reg payload s
  | .readRegisters dev reg length => Sys2Proof.Machine.execReadRegisters dev reg length s
  | .responseToWrite header trailer => Sys2Proof.Machine.execResponseToWrite header trailer s
  | .responseToRead header payload trailer => Sys2Proof.Machine.execResponseToRead header payload trailer s
  | .selectIndex index => Sys2Proof.Machine.execSelectIndex index s
  | .selectSerial serial => Sys2Proof.Machine.execSelectSerial serial s
  | .enumerate => Sys2Proof.Machine.execEnumerate s
  | .discard => Sys2Proof.Machine.execDiscard s
  | .openSession => Sys2Proof.Machine.execOpenSession s
  | .closeSession => Sys2Proof.Machine.execCloseSession s
  | .transact => Sys2Proof.Machine.execTransact s
  | .sum8 bytes => Sys2Proof.Machine.execSum8 bytes s
  | .flush => Sys2Proof.Machine.execFlush s
  | .transmit => Sys2Proof.Machine.execTransmit s
  | .poll => Sys2Proof.Machine.execPoll s
  | .receive count => Sys2Proof.Machine.execReceive count s
  | .ackCheck => Sys2Proof.Machine.execAckCheck s

end Sys2Proof.Machine
end

