-- ==== Sys2Proof/Machine/Fetch.lean ====
section
/-! DEFINITION. What the step fetches: a host request, run whole (R202), and the placing of a table word where the
step finds it. -/

namespace Sys2Proof.Machine

/-- A request is run if a host can issue it (R28, R110, D18). -/
def runRequest (i : Instr) (s : State) : Result :=
  if i.hostOp.isSome then exec i s else .refused .notIssuable

/-- A block that has been constructed (for device 0 where it was not) and is about to take the request. -/
def placeRequest (i : Instr) (s : State) : State :=
  { s with
    phase := .idle, configured := true, devIndex := some (s.devIndex.getD 0), requests := i :: s.requests }

/-- A block in the middle of the transaction `op` that has just received `bytes`. DESIGN CHOICE (log entry 10): where it
had no device it is for device 0, and where `HANDLE` held no value it is the token 0, a value the spec leaves to the
transport (R24, U14); only what a following `close` is called with depends on it. -/
def placeResponse (op : HostOp) (bytes : List Byte) (s : State) : State :=
  { s with
    phase := .checking, configured := true, devIndex := some (s.devIndex.getD 0), isOpen := true,
    handle := some (s.handle.getD (Handle.mk 0)), op := some op, rxbuf := some bytes }

/-- An instruction with a frame, placed: a request before the host interface, a response in `RXBUF` of the
transaction it answers. -/
def place (i : Instr) (s : State) : State :=
  match i with
  | .responseToWrite _ _ =>
    { placeResponse .writeRegisters ((encode i).getD []) s with writeCount := some (s.writeCount.getD 8) }
  | .responseToRead _ payload _ =>
    { placeResponse .readRegisters ((encode i).getD []) s with length := some (BitVec.ofNat 16 payload.length) }
  | _ => placeRequest i s

end Sys2Proof.Machine
end

