-- ==== Sys2Proof/Machine/Step.lean ====
section
/-! DEFINITION. The step. In `IDLE` it takes the host's next request and runs that operation (call and return, R202);
in any other phase it runs the part of the operation in progress that `PHASE` names, at most one call (R30, D24). The
machine that also stops between the calls of a fresh operation is `callStep`. -/

namespace Sys2Proof.Machine

def step (s : State) : Host.Outcome State Fault Refusal :=
  if s.phase = .idle then takeRequest runRequest s else phaseStep s

/-- `s` with the instruction of a table word where the next step finds it; a word that is no instruction changes
nothing. -/
def State.withFetchWord (s : State) (nbits w : Nat) : State :=
  match decodeTableWord nbits w with
  | some i => place i s
  | none => s

end Sys2Proof.Machine
end

