-- ==== Sys2Proof/Safety.lean ====
section
/-! DEFINITION. What a good state is (`Inv`), when an operation has come to rest (`settled`), and the readings of a
call trace that the statements use. -/

namespace Sys2Proof.Machine

/-! ## The invariant -/

/-- The request frame that the operand registers of the transaction in `OP` describe (R141, R156); none where they
describe none that can be encoded (R93). -/
def requestFrame (s : State) : Option (List Byte) := (requestBody s).toOption.map withChecksum

/-- How many bytes the response to the transaction in `OP` has (R82). -/
def responseLength (s : State) : Option Nat :=
  match s.op with
  | some .writeRegisters => some Config.respOverhead
  | some .readRegisters => s.length.map fun n => Config.respOverhead + n.toNat
  | _ => none

/-- `ERR_INFO` is of the kind `ERR` asks for (R210): nothing, a non-zero status, two different counts, or a byte that
is not the acknowledgement. -/
def infoFits : ErrorCode → Option ErrorInfo → Prop
  | .driverError, some (.status st) => st ≠ 0
  | .ioError, some (.counts _ expected actual) => expected ≠ actual
  | .protocolError, some (.ackCheckFailed b) => b ≠ Config.ack
  | .none, none => True
  | .deviceNotFoundError, none => True
  | .rangeError, none => True
  | .timeoutError, none => True
  | _, _ => False

/-- The result registers agree (R29): a result only without an error; a failed `close` never without one. -/
structure ResultsAgree (s : State) : Prop where
  info : infoFits s.err s.errInfo
  written : s.err ≠ .none → s.bytesWritten = none
  data : s.err ≠ .none → s.rdata = none
  closeError : s.closeErr ≠ 0 → s.err ≠ .none

/-- A finished, or about to be closed, transaction without an error has its result: `BYTES_WRITTEN` is the length of
its request (R142), `RDATA` has `LENGTH` bytes (R157). -/
def HasResult (s : State) : Prop :=
  s.err = .none →
    (s.op = some .writeRegisters → s.bytesWritten = (requestFrame s).map List.length ∧ s.rdata = none) ∧
    (s.op = some .readRegisters → s.bytesWritten = none ∧ s.rdata.map List.length = s.length.map BitVec.toNat)

/-- No error and no result yet (R29). -/
structure Fresh (s : State) : Prop where
  err : s.err = .none
  info : s.errInfo = none
  closeErr : s.closeErr = 0
  written : s.bytesWritten = none
  data : s.rdata = none

/-- The locals of a select operation hold no value. -/
structure NoScan (s : State) : Prop where
  idx : s.scanIdx = none
  count : s.scanCount = none
  found : s.scanFound = none

/-- The transient registers of a transaction and the open position hold no value. -/
structure NoTransfer (s : State) : Prop where
  polls : s.pollCnt = none
  tx : s.txbuf = none
  rx : s.rxbuf = none
  status : s.qstatus = none
  due : s.setTimeoutsDue = false
  count : s.writeCount = none
  sum : s.checksum = none

/-- A transaction with its operands, on a configured block (R115, R127). -/
structure InTransaction (s : State) : Prop where
  configured : s.configured = true
  request : (requestFrame s).isSome = true
  scan : NoScan s

/-- The body of a transaction: session open, nothing recorded yet (R127). -/
structure InBody (s : State) : Prop extends InTransaction s, Fresh s where
  session : s.isOpen = true
  due : s.setTimeoutsDue = false

/-- What holds in each phase (R30 to R34). -/
def phaseInv (s : State) : Prop :=
  match s.phase with
  | .idle => s.isOpen = false ∧ NoScan s ∧ NoTransfer s ∧ HasResult s
  | .enumCount =>
    s.configured = false ∧ s.isOpen = false ∧ Fresh s ∧ NoTransfer s ∧ s.scanIdx = none ∧ s.scanFound = none ∧
      (s.op = some .selectIndex ∧ s.selIndex.isSome = true ∨ s.op = some .selectSerial ∧ s.selSerial.isSome = true)
  | .enumDesc =>
    s.configured = false ∧ s.isOpen = false ∧ Fresh s ∧ NoTransfer s ∧ s.op = some .selectSerial ∧
      s.selSerial.isSome = true ∧
      ∃ i count, s.scanIdx = some i ∧ s.scanCount = some count ∧ i ≤ count ∧
        ∀ found, s.scanFound = some found → found < i
  | .opening =>
    InTransaction s ∧ Fresh s ∧ s.isOpen = s.setTimeoutsDue ∧ s.pollCnt = none ∧ s.txbuf = none ∧ s.rxbuf = none ∧
      s.qstatus = none ∧ s.writeCount = none ∧ s.checksum = none
  | .build =>
    InBody s ∧ s.pollCnt = none ∧ s.txbuf = none ∧ s.rxbuf = none ∧ s.qstatus = none ∧ s.writeCount = none
  | .flushing =>
    InBody s ∧ s.pollCnt = none ∧ s.txbuf = requestFrame s ∧ s.rxbuf = none ∧ s.qstatus = none ∧
      s.writeCount = none
  | .transmitting =>
    InBody s ∧ s.pollCnt = none ∧ s.txbuf = requestFrame s ∧ s.rxbuf = none ∧ s.qstatus = none ∧
      s.writeCount = none
  | .polling =>
    InBody s ∧ s.txbuf = none ∧ s.rxbuf = none ∧ s.writeCount = (requestFrame s).map List.length ∧
      ∃ c, s.pollCnt = some c ∧
        (s.qstatus = none ∧ c < Config.pollLimit ∨ s.qstatus.isSome = true ∧ c ≤ Config.pollLimit)
  | .waiting =>
    InBody s ∧ s.txbuf = none ∧ s.rxbuf = none ∧ s.writeCount = (requestFrame s).map List.length ∧ s.qstatus = none ∧
      ∃ c, s.pollCnt = some c ∧ c ≤ Config.pollLimit
  | .receiving =>
    InBody s ∧ s.txbuf = none ∧ s.rxbuf = none ∧ s.writeCount = (requestFrame s).map List.length ∧ s.qstatus = none ∧
      ∃ c, s.pollCnt = some c ∧ c ≤ Config.pollLimit
  | .checking =>
    InBody s ∧ s.txbuf = none ∧ s.rxbuf.map List.length = responseLength s ∧
      s.writeCount = (requestFrame s).map List.length ∧ s.qstatus = none ∧
      ∃ c, s.pollCnt = some c ∧ c ≤ Config.pollLimit
  | .reopening =>
    InTransaction s ∧ HasResult s ∧ s.closeErr = 0 ∧ s.txbuf = none ∧ s.rxbuf = none ∧ s.qstatus = none ∧
      (s.isOpen = true ∨ s.err ≠ .none ∧ s.setTimeoutsDue = false) ∧
      (s.params.reopenInClose = .always → s.setTimeoutsDue = false) ∧ ∀ c, s.pollCnt = some c → c ≤ Config.pollLimit
  | .closing =>
    InTransaction s ∧ HasResult s ∧ s.closeErr = 0 ∧ s.txbuf = none ∧ s.rxbuf = none ∧ s.qstatus = none ∧
      s.setTimeoutsDue = false ∧ (s.isOpen = true ∨ s.err ≠ .none) ∧ ∀ c, s.pollCnt = some c → c ≤ Config.pollLimit

/-- THE INVARIANT: `HANDLE` holds a value exactly while `OPEN = 1` (R24, R25), `DEV_INDEX` exactly while
`CONFIGURED = 1` (R21, R22), `PAYLOAD` fits the bound (R28), the results agree (R29), and the phase's own part. -/
structure Inv (s : State) : Prop where
  handle : s.isOpen = s.handle.isSome
  index : s.configured = s.devIndex.isSome
  payload : ∀ p, s.payload = some p → p.length ≤ s.params.maxWritePayload ∧ p.length ≤ Config.maxEncodablePayload
  results : ResultsAgree s
  phase : phaseInv s

/-- The operation is over, or waits for a call to return. -/
def settled (s : State) : Bool := decide (s.phase = .idle) || awaiting s

/-! ## The call-level machine -/

/-- The block stepped call by call (D24), as a core of its own: the same states, `callStep` for the step. -/
def callCore : Host.Core :=
  { State := State, Fault := Fault, Refusal := Refusal, step := callStep, reset := State.reset }

/-- Where control can go from a phase (R31): the next phase of the order, the way back from `WAITING` to `POLLING`,
and from every phase in which an error can be raised `REOPENING` or `IDLE`. -/
def successors : Phase → List Phase
  | .idle => [.enumCount, .opening]
  | .enumCount => [.enumDesc, .idle]
  | .enumDesc => [.idle]
  | .opening => [.build, .reopening, .idle]
  | .build => [.flushing]
  | .flushing => [.transmitting, .reopening]
  | .transmitting => [.polling, .reopening]
  | .polling => [.waiting, .receiving, .reopening]
  | .waiting => [.polling, .reopening]
  | .receiving => [.checking, .reopening]
  | .checking => [.reopening]
  | .reopening => [.closing]
  | .closing => [.idle]

/-! ## Readings of a trace -/

/-- A clock call. -/
def isSleep : Call → Bool
  | .sleepMs _ => true
  | _ => false

/-- A `T.close` call. -/
def isCloseCall : Call → Bool
  | .close _ _ => true
  | _ => false

/-- A `T.open` call. -/
def isOpenCall : Call → Bool
  | .openDevice _ _ _ => true
  | _ => false

/-- A `T.open` call that returned status 0. -/
def isOpened : Call → Bool
  | .openDevice _ st _ => decide (st = 0)
  | _ => false

/-- A `T.check_queue_status` call. -/
def isPoll : Call → Bool
  | .checkQueueStatus _ _ _ _ => true
  | _ => false

/-- A `T.read` call. -/
def isRead : Call → Bool
  | .read _ _ _ _ => true
  | _ => false

/-- A call of a select operation (R201). -/
def isEnumeration : Call → Bool
  | .enumerateCount _ _ => true
  | .enumerateDescriptor _ _ _ _ => true
  | _ => false

/-- The calls that have returned since the state `s`. -/
def callsSince (s t : State) : List Call := t.calls.drop s.calls.length

/-! ## The exchange of one transaction, as the transport answers it -/

/-- A transport answer of `check_queue_status`. -/
abbrev PollAnswer := Status × Nat × Int

/-- An answer with status 0 whose code is not "ready" (R174). -/
def notReady (a : PollAnswer) : Bool := decide (a.1 = 0) && !isReady a.2.2

/-- `POLL` starts its counting here: outside its own phases, where no poll is counted yet, and at the head of its loop
with no poll made, where `TRANSMIT` leaves the block (R174). -/
def pollStarts (s : State) : Bool :=
  !inPoll s.phase || s.pollCnt.isNone
    || decide (s.phase = .polling) && decide (s.pollCnt = some 0) && s.qstatus.isNone

/-- The calls of unsuccessful polls, each with the sleep that follows it (R174). -/
def pollCalls (h : Handle) : List PollAnswer → List Call
  | [] => []
  | a :: rest =>
    .checkQueueStatus h a.1 a.2.1 a.2.2 :: .sleepMs Config.pollIntervalMs :: pollCalls h rest

/-- `SELECT_SERIAL`'s calls over the descriptors from index `i` on (R112). -/
def scanCalls : Nat → List Str → List Call
  | _, [] => []
  | i, value :: rest => .enumerateDescriptor i .serial 0 value :: scanCalls (i + 1) rest

/-- The lowest index from `i` on whose descriptor matches (R112). -/
def lowestMatch (want : Str) : Nat → List Str → Option Nat
  | _, [] => none
  | i, value :: rest => if normalise value = normalise want then some i else lowestMatch want (i + 1) rest

/-- The transport's answers to the calls of one transaction that opens normally, and what it answers afterwards. -/
structure Exchange where
  handle : Handle
  flush : Status
  write : Status × Nat
  /-- the polls that came before the last one -/
  pending : List PollAnswer
  /-- the last poll -/
  last : PollAnswer
  read : Status × List Byte
  /-- the close sequence's `open`, called with `REOPEN_IN_CLOSE = always` only (R126) -/
  reopen : Status × Handle
  close : Status
  later : Transport
  /-- how many calls of the clock return after those of the exchange -/
  laterClock : Nat

/-- The answers the best-effort open of the close sequence uses up while a session is open (R126). -/
def Exchange.reopens (x : Exchange) : ReopenMode → List (Status × Handle)
  | .viaFlag => []
  | .always => [x.reopen]

/-- The transport that will give an exchange's answers: those of the calls that the exchange comes to, in the order of
their primitives. A call the exchange does not come to finds its answer unused. -/
def Exchange.transport (x : Exchange) (mode : ReopenMode) : Transport :=
  { x.later with
    opens := (0, x.handle) :: (x.reopens mode ++ x.later.opens), timeouts := 0 :: x.later.timeouts,
    flushes := x.flush :: x.later.flushes, writes := x.write :: x.later.writes,
    queueStatus := x.pending ++ x.last :: x.later.queueStatus,
    reads := x.read :: x.later.reads, closes := x.close :: x.later.closes }

/-- How many sleeps the polls of an exchange take: one after each unsuccessful poll, the last included (R174). -/
def Exchange.sleeps (x : Exchange) : Nat := x.pending.length + if notReady x.last then 1 else 0

/-- The clock whose calls all return during an exchange (R200, R251). -/
def Exchange.clock (x : Exchange) : Nat := x.sleeps + x.laterClock

/-- The polls of an exchange are one polling: unsuccessful ones, then a last one that is ready, or fails, or is
the 100th (R174). -/
def Exchange.polls (x : Exchange) : Prop :=
  x.pending.all notReady = true ∧ x.pending.length < Config.pollLimit ∧
    (notReady x.last = true → x.pending.length + 1 = Config.pollLimit)

/-- The error a transaction's body ends with, by the order of R143 and R158: status before count, count before
acknowledgement, each step before the next; `frameLength` and `awaited` are the byte counts expected. -/
def Exchange.bodyError (x : Exchange) (frameLength awaited : Nat) : ErrorCode × Option ErrorInfo :=
  if x.flush ≠ 0 then (.driverError, some (.status x.flush))
  else if x.write.1 ≠ 0 then (.driverError, some (.status x.write.1))
  else if x.write.2 ≠ frameLength then (.ioError, some (.counts .transmit frameLength x.write.2))
  else if x.last.1 ≠ 0 then (.driverError, some (.status x.last.1))
  else if isReady x.last.2.2 = false then (.timeoutError, none)
  else if x.read.1 ≠ 0 then (.driverError, some (.status x.read.1))
  else if x.read.2.length ≠ awaited then (.ioError, some (.counts .receive awaited x.read.2.length))
  else match x.read.2[Config.ackOffset]? with
    | some b => if ackOk b then (.none, none) else (.protocolError, some (.ackCheckFailed b))
    | none => (.none, none)

/-- The calls of an exchange whose request went out, up to its first poll (R201). -/
def Exchange.opening (x : Exchange) (p : Params) (index : Nat) (frame : List Byte) : List Call :=
  [.openDevice index 0 x.handle, .setTimeouts x.handle p.readTimeoutMs p.writeTimeoutMs 0,
    .flushBuffers x.handle 0, .write x.handle frame 0 frame.length]

/-- The calls of the close sequence of an open session (R126 (a), (b), D26). -/
def Exchange.closing (x : Exchange) (mode : ReopenMode) (index : Nat) : List Call :=
  match mode with
  | .viaFlag => [.close x.handle x.close]
  | .always =>
    [.openDevice index x.reopen.1 x.reopen.2,
      .close (if x.reopen.1 = 0 then x.reopen.2 else x.handle) x.close]

/-- The calls of a successful exchange (R201). -/
def Exchange.calls (x : Exchange) (p : Params) (index : Nat) (frame : List Byte) : List Call :=
  x.opening p index frame ++ pollCalls x.handle x.pending
  ++ [.checkQueueStatus x.handle 0 x.last.2.1 Config.readyCode, .read x.handle x.read.2.length 0 x.read.2]
  ++ x.closing p.reopenInClose index

/-- An exchange in which everything goes well, for a request of `frameLength` and a response of `awaited` bytes. -/
def Exchange.succeeds (x : Exchange) (frameLength awaited : Nat) : Prop :=
  x.flush = 0 ∧ x.write = (0, frameLength) ∧ x.pending.all notReady = true ∧ x.pending.length < Config.pollLimit ∧
    x.last.1 = 0 ∧ x.last.2.2 = Config.readyCode ∧ x.read.1 = 0 ∧ x.read.2.length = awaited ∧
    x.read.2[7]? = some Config.ack ∧ x.close = 0

/-- A configured block between operations (R25, R37). -/
structure Ready (s : State) (index : Nat) : Prop where
  phase : s.phase = .idle
  configured : s.configured = true
  index : s.devIndex = some index
  closed : s.isOpen = false
  due : s.setTimeoutsDue = false

/-- The operand registers that issuing the transaction `i` loads (R28, R66); `TRANSACT` finds them loaded (R127). None
for what does not fit (R93), and for a row that is no transaction. -/
def loaded (i : Instr) (s : State) : Option State :=
  match i with
  | .writeRegisters dev reg payload =>
    (writeOperands s.params dev reg payload).map fun o =>
      { s with op := some .writeRegisters, devAddr := some o.1, regAddr := some o.2.1, payload := some o.2.2 }
  | .readRegisters dev reg length =>
    (readOperands dev reg length).map fun o =>
      { s with op := some .readRegisters, devAddr := some o.1, regAddr := some o.2.1, length := some o.2.2 }
  | .transact => if (requestFrame s).isSome then some s else none
  | .responseToWrite _ _ => none
  | .responseToRead _ _ _ => none
  | .selectIndex _ => none
  | .selectSerial _ => none
  | .enumerate => none
  | .discard => none
  | .openSession => none
  | .closeSession => none
  | .sum8 _ => none
  | .flush => none
  | .transmit => none
  | .poll => none
  | .receive _ => none
  | .ackCheck => none

/-- The end of a transaction, its operands loaded in `s`, whose body did not run (R127): `DriverError` with the status
`st`, `CLOSE_ERR` as given, closed and idle, after the calls `made`. -/
def endedBeforeBody (s : State) (st closeErr : Status) (draws : Nat) (t : Transport) (made : List Call) : State :=
  goIdle { s with
    err := .driverError, errInfo := some (.status st), closeErr := closeErr, bytesWritten := none, rdata := none,
    isOpen := false, handle := none, draws := draws, transport := t, calls := s.calls ++ made }

/-- A block in the body of a transaction, or a micro-step's own precondition: the session is open (R24). -/
structure SessionOpen (s : State) (h : Handle) : Prop where
  session : s.isOpen = true
  handle : s.handle = some h

end Sys2Proof.Machine
end

