-- ==== Sys2Proof/Certificates/Slice0/Obligations.lean ====
section
/-! DEFINITION. The statements for the provers: the numbered rules of the spec that say what the block does. -/

open Sys2Proof Sys2Proof.Machine

/-! ## Frames and their encoding -/

/-- Every frame the encoder writes is read back as the instruction it was written for, every operand at every value
its field admits: a request by its own bytes, a response on the channel of the operation that awaits it. The block
parses no request (R89): reading one is the model's own function (log entry 11). -/
def Obligations.DecodeOfEncodeIsTheInstruction : Prop :=
  ∀ (i : Instr) (bytes : List Byte), i.wf = true → encode i = some bytes → decode (channelOf i) bytes = .ok i

/-- Every byte sequence the decoder accepts is the one the encoder writes for what it was read as: no two frames mean
the same, and what is read is well formed. The reading of a request is the model's own (log entry 11). -/
def Obligations.EncodeOfDecodeIsTheFrame : Prop :=
  ∀ (channel : Channel) (bytes : List Byte) (i : Instr),
    (∀ n, channel = .responseToRead n → n < 65536) →
    decode channel bytes = .ok i → encode i = some bytes ∧ i.wf = true ∧ channelOf i = channel

/-- The words of R95 and of the reference vectors, byte by byte, decode to the operations they stand for; reading a
request is the model's own function (log entry 11). -/
def Obligations.WorkedFramesDecode : Prop :=
  (decode .request [0xEF, 0xEF, 0x00, 0x04, 0xF0, 0x01, 0x10, 0xE3]).toOption
    = some (.writeRegisters 0x01 0x10 []) ∧
  (decode .request [0xEF, 0xEF, 0x00, 0x08, 0xF0, 0x12, 0x34, 0xDE, 0xAD, 0xBE, 0xEF, 0x54]).toOption
    = some (.writeRegisters 0x12 0x34 [0xDE, 0xAD, 0xBE, 0xEF]) ∧
  (decode .request [0xEF, 0xEF, 0x00, 0x06, 0xF1, 0x01, 0x10, 0x01, 0x02, 0xE9]).toOption
    = some (.readRegisters 0x01 0x10 258) ∧
  (decode .responseToWrite [0x00, 0x00, 0x00, 0x00, 0x00, 0x00, 0x00, 0xE0, 0x00]).toOption
    = some (.responseToWrite [0, 0, 0, 0, 0, 0, 0] 0x00) ∧
  (decode (.responseToRead 3) [0x11, 0x22, 0x33, 0x44, 0x55, 0x66, 0x77, 0xE0, 0x0A, 0x0B, 0x0C, 0xFF]).toOption
    = some (.responseToRead [0x11, 0x22, 0x33, 0x44, 0x55, 0x66, 0x77] [0x0A, 0x0B, 0x0C] 0xFF)

/-- R80, offset by offset: a write request of `L` payload bytes, `L + 4` fitting 16 bits. -/
def Obligations.WriteRequestLayout : Prop :=
  ∀ (dev reg : Byte) (payload : List Byte), payload.length ≤ 65531 →
    let frame := buildW dev reg payload
    frame.length = payload.length + 8 ∧
    frame[0]? = some 0xEF#8 ∧ frame[1]? = some 0xEF#8 ∧
    (∃ hi lo, frame[2]? = some hi ∧ frame[3]? = some lo ∧ hi.toNat * 256 + lo.toNat = payload.length + 4) ∧
    frame[4]? = some 0xF0#8 ∧ frame[5]? = some dev ∧ frame[6]? = some reg ∧
    (∀ i, i < payload.length → frame[7 + i]? = payload[i]?) ∧
    (∃ c, frame[7 + payload.length]? = some c ∧
      c.toNat = ((frame.take (payload.length + 7)).map BitVec.toNat).sum % 256)

/-- R81, offset by offset: a read request. -/
def Obligations.ReadRequestLayout : Prop :=
  ∀ (dev reg : Byte) (n : Half),
    let frame := buildR dev reg n
    frame.length = 10 ∧
    frame[0]? = some 0xEF#8 ∧ frame[1]? = some 0xEF#8 ∧ frame[2]? = some 0x00#8 ∧ frame[3]? = some 0x06#8 ∧
    frame[4]? = some 0xF1#8 ∧ frame[5]? = some dev ∧ frame[6]? = some reg ∧
    frame[7]? = some (n.extractLsb' 8 8) ∧ frame[8]? = some (n.extractLsb' 0 8) ∧
    (∃ c, frame[9]? = some c ∧ c.toNat = ((frame.take 9).map BitVec.toNat).sum % 256)

/-- R170: the checksum is the sum of the bytes modulo 256, and evaluating it answers a next state that holds
the returned value (in the model's own field `checksum`, log entry 12) and changes no register of the spec. -/
def Obligations.ChecksumIsTheByteSum : Prop :=
  (∀ bytes : List Byte, (sum8 bytes).toNat = (bytes.map BitVec.toNat).sum % 256) ∧
  (∀ (bytes : List Byte) (s : State), exec (.sum8 bytes) s = .next { s with checksum := some (sum8 bytes) })

/-- R171: the laws of the checksum: concatenation, permutation, a complete request, the preamble's share. -/
def Obligations.ChecksumLaws : Prop :=
  (∀ a b : List Byte, sum8 (a ++ b) = sum8 a + sum8 b) ∧
  (∀ a b : List Byte, a.Perm b → sum8 a = sum8 b) ∧
  (∀ body : List Byte, sum8 (withChecksum body) = sum8 body + sum8 body) ∧
  (∀ rest : List Byte, sum8 (Config.sync :: Config.sync :: rest) = 0xDE#8 + sum8 rest)

/-- R84: the write length field is `L + 4` without wrap-around; a payload it cannot carry is refused whatever the
parameter is; up to 251 bytes its high byte is 0. -/
def Obligations.WriteLengthFieldNeverWraps : Prop :=
  (∀ (dev reg : Byte) (payload : List Byte), payload.length ≤ 65531 →
    ∃ hi lo, (buildW dev reg payload)[2]? = some hi ∧ (buildW dev reg payload)[3]? = some lo ∧
      be16 hi lo = payload.length + 4 ∧ (payload.length ≤ 251 → hi = 0#8)) ∧
  (∀ (dev reg : Int) (payload : List Int) (s : State), 65531 < payload.length → s.phase = .idle →
    s.configured = true → exec (.writeRegisters dev reg payload) s = .refused .unencodable)

/-- R88: the first five bytes tell the two requests apart; a request frame with any other command byte is rejected by
that byte. The rejection is the model's own decoder's (log entry 11). -/
def Obligations.CommandByteNamesTheRequest : Prop :=
  (∀ (dev reg : Byte) (p : List Byte), p.length ≤ 65531 →
    (buildW dev reg p).take 2 = [0xEF#8, 0xEF#8] ∧ (buildW dev reg p)[4]? = some 0xF0#8) ∧
  (∀ (dev reg : Byte) (n : Half), (buildR dev reg n).take 5 = [0xEF#8, 0xEF#8, 0x00#8, 0x06#8, 0xF1#8]) ∧
  (∀ (cmd dev reg : Byte) (p : List Byte), p.length ≤ 65531 → cmd ≠ 0xF0#8 → cmd ≠ 0xF1#8 →
    decode .request
      (withChecksum ([0xEF#8, 0xEF#8, hi8 (p.length + 4), lo8 (p.length + 4), cmd, dev, reg] ++ p))
      = .error (.unknownCommand cmd))

/-- R90: decoding a response of the expected length reads the acknowledgement at offset 7 and, for a read, the
payload from offset 8 up to the trailer. -/
def Obligations.ResponseDecoding : Prop :=
  ∀ (n : Nat) (bytes : List Byte) (ack : Byte), bytes.length = 9 + n → bytes[7]? = some ack →
    (ack ≠ 0xE0#8 → decode (.responseToRead n) bytes = .error (.badAck ack)) ∧
    (ack = 0xE0#8 → ∃ header payload trailer,
      decode (.responseToRead n) bytes = .ok (.responseToRead header payload trailer) ∧
      payload.length = n ∧ (∀ i, i < n → payload[i]? = bytes[8 + i]?) ∧ (n = 0 → payload = []) ∧
      bytes = header ++ [ack] ++ payload ++ [trailer])

/-! ## Reset and the hardwired registers -/

/-- R37: every register after reset. -/
def Obligations.ResetRegisters : Prop :=
  let s := State.reset
  s.configured = false ∧ s.devIndex = none ∧ s.handle = none ∧ s.isOpen = false ∧
  s.readTimeoutMs = 500 ∧ s.writeTimeoutMs = 1000 ∧ s.pollLimit = 100 ∧ s.pollIntervalMs = 1 ∧
  s.op = none ∧ s.devAddr = none ∧ s.regAddr = none ∧ s.length = none ∧ s.payload = none ∧ s.selIndex = none ∧
  s.selSerial = none ∧ s.err.code = 0 ∧ s.closeErr = 0 ∧ s.errInfo = none ∧ s.bytesWritten = none ∧ s.rdata = none ∧
  s.phase = .idle ∧ s.pollCnt = none ∧ s.scanIdx = none ∧ s.txbuf = none ∧ s.rxbuf = none ∧ s.qstatus = none

/-- No step writes the parameters to which the two timeout registers are hardwired; the two poll registers read
100 and 1 in every state. -/
def Obligations.HardwiredRegistersNeverChange : Prop :=
  ∀ s t : State, (step s = .next t ∨ callStep s = .next t) →
    t.readTimeoutMs = s.readTimeoutMs ∧ t.writeTimeoutMs = s.writeTimeoutMs ∧ t.params = s.params ∧
    t.pollLimit = 100 ∧ t.pollIntervalMs = 1

/-! ## The handshake micro-steps -/

/-- R172: `FLUSH` makes its one call with the session's handle; a non-zero status raises `DriverError`; nothing else
changes. That `PHASE` is left at the next step of R31's order, `TRANSMITTING`, when `FLUSH` is run as an instruction of
its own, is the model's choice (log entry 17). -/
def Obligations.FlushMakesOneCall : Prop :=
  ∀ (s : State) (h : Handle) (st : Status) (rest : List Status), SessionOpen s h → s.transport.flushes = st :: rest →
    let s1 := { s with phase := .flushing, transport := { s.transport with flushes := rest },
                       calls := s.calls ++ [.flushBuffers h st] }
    exec .flush s =
      .next (if st = 0 then { s1 with phase := .transmitting } else raise .driverError (some (.status st)) s1)

/-- R173: `TRANSMIT` hands the whole frame over in one call; status before count; any other count than the frame's
length is `IoError`. The right count is kept in the model's own `writeCount` (log entry 12) and frees `TXBUF` (R33); that
`PHASE` is then left at `POLLING` with `POLL_CNT = 0` (R31, R32) when `TRANSMIT` is run as an instruction of its own is the
model's choice (log entry 17). -/
def Obligations.TransmitMakesOneCall : Prop :=
  ∀ (s : State) (h : Handle) (frame : List Byte) (st : Status) (n : Nat) (rest : List (Status × Nat)),
    SessionOpen s h → s.txbuf = some frame → s.transport.writes = (st, n) :: rest →
    let s1 := { s with phase := .transmitting, transport := { s.transport with writes := rest },
                       calls := s.calls ++ [.write h frame st n] }
    (st ≠ 0 → exec .transmit s = .next (raise .driverError (some (.status st)) s1)) ∧
    (st = 0 → n ≠ frame.length →
      exec .transmit s = .next (raise .ioError (some (.counts .transmit frame.length n)) s1)) ∧
    (st = 0 → n = frame.length →
      exec .transmit s = .next { s1 with phase := .polling, writeCount := some n, txbuf := none, pollCnt := some 0,
                                         qstatus := none })

/-- R175: `RECEIVE(k)` makes one call for `k` bytes; status before count; any other count is `IoError`; the right
count fills `RXBUF`. That `PHASE` is then left at `CHECKING` when `RECEIVE` is run as an instruction of its own is the
model's choice (log entry 17). -/
def Obligations.ReceiveMakesOneCall : Prop :=
  ∀ (s : State) (h : Handle) (k : Nat) (st : Status) (bytes : List Byte) (rest : List (Status × List Byte)),
    SessionOpen s h → s.transport.reads = (st, bytes) :: rest →
    let s1 := { s with phase := .receiving, transport := { s.transport with reads := rest },
                       calls := s.calls ++ [.read h k st bytes] }
    (st ≠ 0 → exec (.receive k) s = .next (raise .driverError (some (.status st)) s1)) ∧
    (st = 0 → bytes.length ≠ k →
      exec (.receive k) s = .next (raise .ioError (some (.counts .receive k bytes.length)) s1)) ∧
    (st = 0 → bytes.length = k → exec (.receive k) s = .next { s1 with phase := .checking, rxbuf := some bytes })

/-- `ACKCHECK` passes exactly on `0xE0` at offset 7 and then changes nothing but `PHASE`; every other value is the same
`ProtocolError`, with the byte (R176, for its operand `len(B) >= 9`). That a buffer of exactly 8 bytes is tested in the same
way is the model's choice (log entry 25), and so is running `ACKCHECK` as an instruction of its own (log entry 17). -/
def Obligations.AckCheckTestsOffsetSeven : Prop :=
  ∀ (s : State) (bytes : List Byte) (b : Byte), s.rxbuf = some bytes → bytes[7]? = some b →
    (b = 0xE0#8 → exec .ackCheck s = .next { s with phase := .checking }) ∧
    (b ≠ 0xE0#8 →
      exec .ackCheck s = .next (raise .protocolError (some (.ackCheckFailed b)) { s with phase := .checking }))

/-- `POLL` on any number of unsuccessful polls below the limit and then a ready one, the clock returning from each
sleep: a call for each poll, a sleep after each unsuccessful one, the number of polls in `POLL_CNT`. That `PHASE` is left
at `RECEIVING` and `QSTATUS` holds no value when `POLL` is run as an instruction of its own is the model's choice (log
entry 17). -/
def Obligations.PollEndsAtTheFirstReady : Prop :=
  ∀ (s : State) (h : Handle) (pending : List PollAnswer) (available : Nat) (rest : List PollAnswer) (later : Nat),
    SessionOpen s h → pollStarts s = true → s.clock = pending.length + later →
    pending.all notReady = true → pending.length < 100 →
    s.transport.queueStatus = pending ++ (0, available, 2) :: rest →
    exec .poll s = .next { s with
      phase := .receiving, pollCnt := some (pending.length + 1), qstatus := none, clock := later,
      transport := { s.transport with queueStatus := rest },
      calls := s.calls ++ pollCalls h pending ++ [.checkQueueStatus h 0 available 2] }

/-- `POLL` on 100 unsuccessful polls, the clock returning from each sleep: 100 calls, 100 sleeps, `TimeoutError`,
whatever the transport would answer next. -/
def Obligations.PollTimesOutAfterOneHundred : Prop :=
  ∀ (s : State) (h : Handle) (pending rest : List PollAnswer) (later : Nat),
    SessionOpen s h → pollStarts s = true → s.clock = 100 + later →
    pending.all notReady = true → pending.length = 100 →
    s.transport.queueStatus = pending ++ rest →
    exec .poll s = .next (raise .timeoutError none { s with
      phase := .waiting, pollCnt := some 100, qstatus := none, clock := later,
      transport := { s.transport with queueStatus := rest }, calls := s.calls ++ pollCalls h pending })

/-- `POLL` whose call returns a non-zero vendor status, on the 100th poll too: `DriverError` at once, no sleep and
no poll after it. -/
def Obligations.PollStopsAtAVendorError : Prop :=
  ∀ (s : State) (h : Handle) (pending : List PollAnswer) (st : Status) (available : Nat) (code : Int)
    (rest : List PollAnswer) (later : Nat),
    SessionOpen s h → pollStarts s = true → s.clock = pending.length + later →
    pending.all notReady = true → pending.length < 100 → st ≠ 0 →
    s.transport.queueStatus = pending ++ (st, available, code) :: rest →
    exec .poll s = .next (raise .driverError (some (.status st)) { s with
      phase := .polling, pollCnt := some (pending.length + 1), qstatus := some code, clock := later,
      transport := { s.transport with queueStatus := rest },
      calls := s.calls ++ pollCalls h pending ++ [.checkQueueStatus h st available code] })

/-- However the transport and the clock answer and wherever `POLL` starts its counting, it makes at most 100 polls and
at most 100 sleeps, and no other call. -/
def Obligations.PollIsBounded : Prop :=
  ∀ (s t : State), pollStarts s = true → exec .poll s = .next t →
    t.calls = s.calls ++ callsSince s t ∧ (callsSince s t).countP isPoll ≤ 100 ∧
    (callsSince s t).countP isSleep ≤ 100 ∧ (callsSince s t).all (fun c => isPoll c || isSleep c) = true

/-! ## The session -/

/-- `OPEN_SESSION` with no `set_timeouts` due (with one due it goes on with that call, the model's choice, log entries 12
and 17): no call where the session is open; else `open` with `DEV_INDEX`, `OPEN` and `HANDLE` written at
once, then `set_timeouts` with the read timeout first. That `PHASE` is left at `BUILD` in both cases when `OPEN_SESSION` is
run as an instruction of its own is the model's choice (log entry 17): in a run the early return belongs to the
best-effort open of R126, which `CLOSING` follows. -/
def Obligations.OpenSessionOpensAndSetsTimeouts : Prop :=
  ∀ (s : State), s.setTimeoutsDue = false →
    (s.isOpen = true → exec .openSession s = .next { s with phase := .build }) ∧
    (∀ index h os ts, s.isOpen = false → s.devIndex = some index → s.transport.opens = (0, h) :: os →
      s.transport.timeouts = 0 :: ts →
      exec .openSession s = .next { s with
        phase := .build, isOpen := true, handle := some h,
        transport := { s.transport with opens := os, timeouts := ts },
        calls := s.calls ++ [.openDevice index 0 h, .setTimeouts h s.params.readTimeoutMs s.params.writeTimeoutMs 0] })

/-- `OPEN_SESSION` failing: a failing `open` leaves `OPEN = 0`; a failing `set_timeouts` is an error with the session
open. And the whole transaction it ends (rows 1 and 2 of R143 and R158), for both values of each parameter: `DriverError`
with the first failing status; after a failed `open` no close sequence by default (V-S2), else one `open` more and one
`close` (V-S3), its argument a free value if that `open` fails too (log entry 5); after a failed `set_timeouts` the close
sequence (V-S4); `CLOSE_ERR` is what `close` answered, 0 if it was not called. Running `OPEN_SESSION` as an instruction of
its own, and `TRANSACT` on operands loaded before, is the model's choice (log entry 17); that a transaction's unused
operand registers stay is its reading (log entry 15). -/
def Obligations.OpenSessionFailures : Prop :=
  (∀ (s : State) (index : Nat) (st : Status) (h : Handle) (os : List (Status × Handle)),
    s.setTimeoutsDue = false → s.isOpen = false → s.devIndex = some index →
    (st ≠ 0 → s.transport.opens = (st, h) :: os →
      exec .openSession s = .next (raise .driverError (some (.status st)) { s with
        phase := .opening, transport := { s.transport with opens := os },
        calls := s.calls ++ [.openDevice index st h] })) ∧
    (∀ ts, st ≠ 0 → s.transport.opens = (0, h) :: os → s.transport.timeouts = st :: ts →
      exec .openSession s = .next (raise .driverError (some (.status st)) { s with
        phase := .opening, isOpen := true, handle := some h,
        transport := { s.transport with opens := os, timeouts := ts },
        calls := s.calls ++
          [.openDevice index 0 h, .setTimeouts h s.params.readTimeoutMs s.params.writeTimeoutMs st] }))) ∧
  (∀ (i : Instr) (s loadedState : State) (index : Nat) (st : Status) (h : Handle),
    Ready s index → s.handle = none → loaded i s = some loadedState → st ≠ 0 →
    (∀ os, s.params.closeAfterOpenFailure = false → s.transport.opens = (st, h) :: os →
      exec i s = .next (endedBeforeBody loadedState st 0 s.draws { s.transport with opens := os }
        [.openDevice index st h])) ∧
    (∀ h2 st2 cst os cs, s.params.closeAfterOpenFailure = true → s.transport.opens = (st, h) :: (st2, h2) :: os →
      s.transport.closes = cst :: cs →
      (st2 ≠ 0 →
        exec i s = .next (endedBeforeBody loadedState st cst (s.draws + 1) { s.transport with opens := os, closes := cs }
          [.openDevice index st h, .openDevice index st2 h2, .close (Config.freeHandle s.draws) cst])) ∧
      (st2 = 0 → s.params.reopenInClose = .always →
        exec i s = .next (endedBeforeBody loadedState st cst s.draws { s.transport with opens := os, closes := cs }
          [.openDevice index st h, .openDevice index 0 h2, .close h2 cst])) ∧
      (∀ tst ts, st2 = 0 → s.params.reopenInClose = .viaFlag → s.transport.timeouts = tst :: ts →
        exec i s = .next (endedBeforeBody loadedState st cst s.draws
          { s.transport with opens := os, closes := cs, timeouts := ts }
          [.openDevice index st h, .openDevice index 0 h2,
            .setTimeouts h2 s.params.readTimeoutMs s.params.writeTimeoutMs tst, .close h2 cst]))) ∧
    (∀ cst os cs ts, s.transport.opens = (0, h) :: os → s.transport.timeouts = st :: ts →
      s.transport.closes = cst :: cs →
      (s.params.reopenInClose = .viaFlag →
        exec i s = .next (endedBeforeBody loadedState st cst s.draws
          { s.transport with opens := os, closes := cs, timeouts := ts }
          [.openDevice index 0 h, .setTimeouts h s.params.readTimeoutMs s.params.writeTimeoutMs st, .close h cst])) ∧
      (∀ st2 h2 os2, s.params.reopenInClose = .always → os = (st2, h2) :: os2 →
        exec i s = .next (endedBeforeBody loadedState st cst s.draws
          { s.transport with opens := os2, closes := cs, timeouts := ts }
          [.openDevice index 0 h, .setTimeouts h s.params.readTimeoutMs s.params.writeTimeoutMs st,
            .openDevice index st2 h2, .close (if st2 = 0 then h2 else h) cst]))))

/-- `CLOSE_SESSION` of an open session, by the flag: the best-effort open makes no call; `T.close` is called once
with `HANDLE`; whatever it answers, `OPEN = 0`, `HANDLE` holds no value, `CLOSE_ERR` is the answer and the block is
idle; a failure is the outcome only if there is none yet. Running it as an instruction of its own, from any phase, is the
model's choice (log entry 17). -/
def Obligations.CloseSessionClosesOnce : Prop :=
  ∀ (s : State) (h : Handle) (st : Status) (cs : List Status),
    SessionOpen s h → s.setTimeoutsDue = false → s.phase ≠ .closing → s.params.reopenInClose = .viaFlag →
    s.transport.closes = st :: cs →
    exec .closeSession s = .next (goIdle { s with
      isOpen := false, handle := none, closeErr := st,
      err := if st ≠ 0 ∧ s.err = .none then .driverError else s.err,
      errInfo := if st ≠ 0 ∧ s.err = .none then some (.status st) else s.errInfo,
      bytesWritten := if st ≠ 0 ∧ s.err = .none then none else s.bytesWritten,
      rdata := if st ≠ 0 ∧ s.err = .none then none else s.rdata,
      transport := { s.transport with closes := cs }, calls := s.calls ++ [.close h st] })

/-- `CLOSE_SESSION` with `REOPEN_IN_CLOSE = always`: one `T.open` whose status is discarded; its handle replaces
`HANDLE` if it succeeded, and is the one closed; `set_timeouts` is not called. Running it as an instruction of its own,
from any phase, recording the outcome and going idle by itself, is the model's choice (log entry 17). -/
def Obligations.CloseSessionReopensAlways : Prop :=
  ∀ (s : State) (h h2 : Handle) (index : Nat) (ost st : Status) (os : List (Status × Handle)) (cs : List Status),
    SessionOpen s h → s.phase ≠ .closing → s.params.reopenInClose = .always → s.devIndex = some index →
    s.transport.opens = (ost, h2) :: os → s.transport.closes = st :: cs →
    exec .closeSession s = .next (goIdle { s with
      isOpen := false, handle := none, closeErr := st,
      err := if st ≠ 0 ∧ s.err = .none then .driverError else s.err,
      errInfo := if st ≠ 0 ∧ s.err = .none then some (.status st) else s.errInfo,
      bytesWritten := if st ≠ 0 ∧ s.err = .none then none else s.bytesWritten,
      rdata := if st ≠ 0 ∧ s.err = .none then none else s.rdata,
      transport := { s.transport with opens := os, closes := cs },
      calls := s.calls ++ [.openDevice index ost h2, .close (if ost = 0 then h2 else h) st] })

/-- The close sequence after a failed `open` (possible with `CLOSE_AFTER_OPEN_FAILURE = true` only): `open` is really
called again, and if it fails too, `T.close` is called once with a free value, any handle at all: an opaque constant
applied to the counter `draws`, which is advanced (log entry 5). Running `CLOSE_SESSION` as an instruction of its own is
the model's choice (log entry 17). -/
def Obligations.CloseAfterTwoFailedOpens : Prop :=
  ∀ (s : State) (h : Handle) (index : Nat) (ost st : Status) (os : List (Status × Handle)) (cs : List Status),
    s.isOpen = false → s.handle = none → s.setTimeoutsDue = false → s.phase ≠ .closing → s.err ≠ .none →
    s.devIndex = some index → ost ≠ 0 → s.transport.opens = (ost, h) :: os → s.transport.closes = st :: cs →
    exec .closeSession s = .next (goIdle { s with
      closeErr := st, draws := s.draws + 1,
      transport := { s.transport with opens := os, closes := cs },
      calls := s.calls ++ [.openDevice index ost h, .close (Config.freeHandle s.draws) st] })

/-! ## Construction and discard -/

/-- `ENUMERATE`: one call; a non-zero status raises `DriverError`, else the count is returned, into the model's own
field `scanCount` (log entry 12). -/
def Obligations.EnumerateReturnsTheCount : Prop :=
  ∀ (s : State) (st : Status) (count : Nat) (rest : List (Status × Nat)), s.transport.counts = (st, count) :: rest →
    let s1 := { s with phase := .enumCount, transport := { s.transport with counts := rest },
                       calls := s.calls ++ [.enumerateCount st count] }
    exec .enumerate s =
      .next (if st = 0 then { s1 with scanCount := some count } else raise .driverError (some (.status st)) s1)

/-- R111: `SELECT_INDEX` on an unconfigured idle block makes exactly one call; `DriverError` first, then `RangeError`
outside `[0, count)`, else `DEV_INDEX` is the index and the block is configured. That the operand registers it does not
use stay is the model's reading (log entry 15). -/
def Obligations.SelectIndexConfigures : Prop :=
  ∀ (s : State) (index : Int) (st : Status) (count : Nat) (rest : List (Status × Nat)),
    s.phase = .idle → s.configured = false → s.scanCount = none → s.transport.counts = (st, count) :: rest →
    exec (.selectIndex index) s = .next (goIdle { s with
      op := some .selectIndex, selIndex := some index,
      err := if st ≠ 0 then .driverError else if 0 ≤ index ∧ index < count then .none else .rangeError,
      errInfo := if st ≠ 0 then some (.status st) else none,
      closeErr := 0, bytesWritten := none, rdata := none,
      devIndex := if st = 0 ∧ 0 ≤ index ∧ index < count then some index.toNat else s.devIndex,
      configured := decide (st = 0 ∧ 0 ≤ index ∧ index < count),
      transport := { s.transport with counts := rest }, calls := s.calls ++ [.enumerateCount st count] })

/-- R112: `SELECT_SERIAL` when no call fails: every device's serial field is read once, in ascending order, and the
lowest index whose field is the requested string after trimming and case folding is selected; without one,
`DeviceNotFoundError`. That the operand registers it does not use stay is the model's reading (log entry 15). -/
def Obligations.SelectSerialScansEveryDevice : Prop :=
  ∀ (s : State) (serial : Str) (values : List Str) (cs : List (Status × Nat)) (ds : List (Status × Str)),
    s.phase = .idle → s.configured = false → s.scanCount = none →
    s.transport.counts = (0, values.length) :: cs →
    s.transport.descriptors = values.map (fun v => ((0 : Status), v)) ++ ds →
    exec (.selectSerial serial) s = .next (goIdle { s with
      op := some .selectSerial, selSerial := some serial,
      err := if (lowestMatch serial 0 values).isSome then .none else .deviceNotFoundError,
      errInfo := none, closeErr := 0, bytesWritten := none, rdata := none,
      devIndex := if (lowestMatch serial 0 values).isSome then lowestMatch serial 0 values else s.devIndex,
      configured := (lowestMatch serial 0 values).isSome,
      transport := { s.transport with counts := cs, descriptors := ds },
      calls := s.calls ++ .enumerateCount 0 values.length :: scanCalls 0 values })

/-- `SELECT_SERIAL` when the count call fails: `DriverError` and no descriptor call (V-C12); when a descriptor call
fails: `DriverError` at once, although a lower index may have matched, and no further call (V-C11). That the operand
registers it does not use stay is the model's reading (log entry 15). -/
def Obligations.SelectSerialStopsAtAVendorError : Prop :=
  (∀ (s : State) (serial : Str) (count : Nat) (st : Status) (cs : List (Status × Nat)),
    s.phase = .idle → s.configured = false → s.scanCount = none → st ≠ 0 → s.transport.counts = (st, count) :: cs →
    exec (.selectSerial serial) s = .next (goIdle { s with
      op := some .selectSerial, selSerial := some serial, err := .driverError, errInfo := some (.status st),
      closeErr := 0, bytesWritten := none, rdata := none,
      transport := { s.transport with counts := cs }, calls := s.calls ++ [.enumerateCount st count] })) ∧
  (∀ (s : State) (serial value : Str) (values : List Str) (count : Nat) (st : Status) (cs : List (Status × Nat))
    (ds : List (Status × Str)),
    s.phase = .idle → s.configured = false → s.scanCount = none → values.length < count → st ≠ 0 →
    s.transport.counts = (0, count) :: cs →
    s.transport.descriptors = values.map (fun v => ((0 : Status), v)) ++ (st, value) :: ds →
    exec (.selectSerial serial) s = .next (goIdle { s with
      op := some .selectSerial, selSerial := some serial, err := .driverError, errInfo := some (.status st),
      closeErr := 0, bytesWritten := none, rdata := none,
      transport := { s.transport with counts := cs, descriptors := ds },
      calls := s.calls ++ .enumerateCount 0 count ::
        (scanCalls 0 values ++ [.enumerateDescriptor values.length .serial st value]) }))

/-- R112's normalisation: white space at the two ends goes, a string without any there is kept whole, inner white space
included, with its ASCII upper-case letters folded and nothing else; which codes are white space and which are folded;
doing it twice is doing it once. -/
def Obligations.NormalisationTrimsAndFolds : Prop :=
  (∀ s : Str, normalise (normalise s) = normalise s) ∧
  (∀ (lead trail core : Str), lead.all isSpace = true → trail.all isSpace = true →
    normalise (lead ++ core ++ trail) = normalise core) ∧
  (∀ core : Str, (∀ c, core.head? = some c → isSpace c = false) → (∀ c, core.getLast? = some c → isSpace c = false) →
    normalise core = core.map lowerChar) ∧
  (∀ c : Nat, isSpace c = true ↔ c = 0x20 ∨ 0x09 ≤ c ∧ c ≤ 0x0D) ∧
  (∀ c : Nat, lowerChar c = if 65 ≤ c ∧ c ≤ 90 then c + 32 else c)

/-- R113: a failed select leaves the block unconfigured, without a device index, idle and with its error recorded. -/
def Obligations.FailedSelectLeavesUnconfigured : Prop :=
  ∀ (s t : State) (i : Instr), Inv s → s.phase = .idle →
    (i.hostOp = some .selectIndex ∨ i.hostOp = some .selectSerial) →
    exec i s = .next t → t.phase = .idle → t.err ≠ .none →
    t.configured = false ∧ t.devIndex = none ∧ t.isOpen = false ∧ infoFits t.err t.errInfo ∧
    (callsSince s t).all isEnumeration = true

/-- `DISCARD` on an idle block: every register at its reset value, no call; the parameters, the host's requests, the
transport, the clock and the trace are not the block's and stay. From `CONFIGURED = 0` too (log entry 16). -/
def Obligations.DiscardResetsEveryRegister : Prop :=
  ∀ (s : State), s.phase = .idle →
    exec .discard s = .next { State.reset with
      params := s.params, draws := s.draws, requests := s.requests, transport := s.transport, clock := s.clock,
      calls := s.calls }

/-! ## Refusals -/

/-- R115 and R116: a transaction on an unconfigured block, `TRANSACT` itself included (R127), and a select operation on a
configured one are refused, whatever their operands. That this refusal is the one named even where the operands do not fit is the model's order
of refusals (log entry 18). -/
def Obligations.ConfigurationGatesTheOperations : Prop :=
  ∀ (s : State), s.phase = .idle →
    (s.configured = false →
      (∀ dev reg payload, exec (.writeRegisters dev reg payload) s = .refused .unconfigured) ∧
      (∀ dev reg length, exec (.readRegisters dev reg length) s = .refused .unconfigured) ∧
      (isTransaction s = true → exec .transact s = .refused .unconfigured)) ∧
    (s.configured = true →
      (∀ index, exec (.selectIndex index) s = .refused .alreadyConfigured) ∧
      (∀ serial, exec (.selectSerial serial) s = .refused .alreadyConfigured))

/-- Issuing any host operation while another is in progress is refused (R244). That the refusal is named `busy` whatever
`CONFIGURED` and the operands are is the model's order of refusals (log entry 18). -/
def Obligations.OverlappingOperationsAreRefused : Prop :=
  ∀ (s : State) (i : Instr), s.phase ≠ .idle → i.hostOp.isSome = true → exec i s = .refused .busy

/-- R93: an operand that does not fit its field is refused, before any call: an address or a payload element outside
0..255, a length outside 0..65535, a payload longer than `MAX_WRITE_PAYLOAD`. `TRANSACT` finds its operands loaded and
refuses at its issue (R127) a payload longer than the parameter or than the length field can carry (R84), and an operand
register that holds no value (R21); that it starts from `IDLE` on operands loaded before is the model's choice (log
entry 17), and so is the order of these refusals: a register without a value is the ground named even where the loaded
payload is too long (log entry 18). -/
def Obligations.UnencodableOperandsAreRefused : Prop :=
  ∀ (s : State), s.phase = .idle → s.configured = true →
    (∀ dev reg payload,
      (fitsByte dev = false ∨ fitsByte reg = false ∨ (∃ v ∈ payload, fitsByte v = false) ∨
        s.params.maxWritePayload < payload.length) →
      exec (.writeRegisters dev reg payload) s = .refused .unencodable) ∧
    (∀ dev reg length,
      (fitsByte dev = false ∨ fitsByte reg = false ∨ fitsHalf length = false) →
      exec (.readRegisters dev reg length) s = .refused .unencodable) ∧
    (∀ d r p, s.op = some .writeRegisters → s.devAddr = some d → s.regAddr = some r → s.payload = some p →
      s.params.maxWritePayload < p.length ∨ 65531 < p.length → exec .transact s = .refused .unencodable) ∧
    (s.op = some .writeRegisters ∨ s.op = some .readRegisters →
      (s.devAddr = none ∨ s.regAddr = none ∨ s.op = some .writeRegisters ∧ s.payload = none ∨
        s.op = some .readRegisters ∧ s.length = none) →
      ∃ register, exec .transact s = .refused (.noValue register)) ∧
    (∀ v : Int, fitsByte v = true ↔ 0 ≤ v ∧ v ≤ 255) ∧ (∀ v : Int, fitsHalf v = true ↔ 0 ≤ v ∧ v ≤ 65535)

/-! ## Transactions -/

/-- The body's result when a nine-byte response with the acknowledgement answers a write: `BYTES_WRITTEN` is the
count the transport reported, and `L + 8`, which R142 says it always is, where none was kept; header and trailer do not
matter. The kept count is the model's own field (log entry 12); running the row as an instruction of its own, from any
phase, is the model's choice (log entry 17). -/
def Obligations.ResponseToWriteGivesTheCount : Prop :=
  ∀ (s : State) (header : List Byte) (trailer : Byte), s.op = some .writeRegisters → header.length = 7 →
    (∀ n, s.writeCount = some n → exec (.responseToWrite header trailer) s =
      .next { s with bytesWritten := some n, rxbuf := none, phase := .reopening }) ∧
    (∀ p, s.writeCount = none → s.payload = some p → exec (.responseToWrite header trailer) s =
      .next { s with bytesWritten := some (p.length + 8), rxbuf := none, phase := .reopening })

/-- The body's result when a response of `9 + LENGTH` bytes with the acknowledgement answers a read: `RDATA` is the
payload; a response with another payload count is `IoError` (the model's reading, log entry 23). Running the row as an
instruction of its own, from any phase, is the model's choice (log entry 17). -/
def Obligations.ResponseToReadGivesThePayload : Prop :=
  ∀ (s : State) (header payload : List Byte) (trailer : Byte) (n : Half),
    s.op = some .readRegisters → s.length = some n → header.length = 7 →
    (payload.length = n.toNat → exec (.responseToRead header payload trailer) s =
      .next { s with rdata := some payload, rxbuf := none, phase := .reopening }) ∧
    (payload.length ≠ n.toNat → exec (.responseToRead header payload trailer) s =
      .next (raise .ioError (some (.counts .receive (9 + n.toNat) (9 + payload.length))) s))

/-- R140 with R142: a write transaction in which every call succeeds, for every operand that fits: the calls in order
with the frame of R141 in one `write`, one poll per answer, nine bytes read, one `close`; `BYTES_WRITTEN = L + 8`;
the session closed and the block idle; nothing else changed. That the operand registers it does not use stay is the
model's reading (log entry 15). -/
def Obligations.WriteTransactionCompletes : Prop :=
  ∀ (s : State) (index : Nat) (dev reg : Int) (payload : List Int) (d r : Byte) (p : List Byte) (x : Exchange),
    Ready s index → writeOperands s.params dev reg payload = some (d, r, p) →
    s.transport = x.transport s.params.reopenInClose → s.clock = x.clock → x.succeeds (p.length + 8) 9 →
    exec (.writeRegisters dev reg payload) s = .next (goIdle { s with
      op := some .writeRegisters, devAddr := some d, regAddr := some r, payload := some p,
      err := .none, errInfo := none, closeErr := 0, bytesWritten := some (p.length + 8), rdata := none,
      isOpen := false, handle := none, transport := x.later, clock := x.laterClock,
      calls := s.calls ++ x.calls s.params index (buildW d r p) })

/-- R155 with R157: a read transaction in which every call succeeds, for every operand that fits: as a write, with the
request of R156 and `9 + N` bytes read; `RDATA` is the `N` bytes from offset 8. That the operand registers it does not use
stay is the model's reading (log entry 15). -/
def Obligations.ReadTransactionCompletes : Prop :=
  ∀ (s : State) (index : Nat) (dev reg length : Int) (d r : Byte) (n : Half) (x : Exchange),
    Ready s index → readOperands dev reg length = some (d, r, n) →
    s.transport = x.transport s.params.reopenInClose → s.clock = x.clock → x.succeeds 10 (9 + n.toNat) →
    exec (.readRegisters dev reg length) s = .next (goIdle { s with
      op := some .readRegisters, devAddr := some d, regAddr := some r, length := some n,
      err := .none, errInfo := none, closeErr := 0, bytesWritten := none,
      rdata := some ((x.read.2.drop 8).take n.toNat),
      isOpen := false, handle := none, transport := x.later, clock := x.laterClock,
      calls := s.calls ++ x.calls s.params index (buildR d r n) })

/-- `TRANSACT` runs the transaction that `OP` and the operand registers name: from an idle block, with an exchange in
which every call succeeds, the calls in order, the result, the session closed; the device, control and operand registers stay
(those that `OP` does not use by the model's reading, log entry 15). Starting it from `IDLE` on operands loaded
before is the model's choice (log entry 17). -/
def Obligations.TransactWrapsTheBody : Prop :=
  ∀ (s : State) (index : Nat) (frame : List Byte) (x : Exchange) (awaited : Nat),
    Ready s index → requestFrame s = some frame → responseLength s = some awaited →
    s.transport = x.transport s.params.reopenInClose → s.clock = x.clock → x.succeeds frame.length awaited →
    ∃ t, exec .transact s = .next t ∧ t.phase = .idle ∧ t.isOpen = false ∧ t.handle = none ∧ t.err = .none ∧
      t.closeErr = 0 ∧
      (s.op = some .writeRegisters → t.bytesWritten = some frame.length ∧ t.rdata = none) ∧
      (s.op = some .readRegisters → t.bytesWritten = none ∧ t.rdata = some ((x.read.2.drop 8).take (awaited - 9))) ∧
      t.calls = s.calls ++ x.calls s.params index frame ∧ t.transport = x.later ∧
      t.clock = x.laterClock ∧ t.devIndex = s.devIndex ∧ t.configured = s.configured ∧ t.op = s.op ∧
      t.devAddr = s.devAddr ∧ t.regAddr = s.regAddr ∧ t.length = s.length ∧ t.payload = s.payload ∧
      t.selIndex = s.selIndex ∧ t.selSerial = s.selSerial

/-- The outcome of `WRITE_REGISTERS`, `READ_REGISTERS` and `TRANSACT` whose session opens (rows 3 to 11 of R143 and
R158; rows 1 and 2 are in `OpenSessionFailures`), for every way the transport can answer the calls after that: the first
failing step in the order of R143 and R158 gives `ERR` and `ERR_INFO`, a failing `close` only if nothing failed before;
`CLOSE_ERR` is what `close` answered; the session is closed, the block idle, and there is a result only on success.
Starting `TRANSACT` from `IDLE` on operands loaded before is the model's choice (log entry 17). -/
def Obligations.FirstErrorIsTheOutcome : Prop :=
  ∀ (i : Instr) (s loadedState : State) (index : Nat) (frame : List Byte) (awaited : Nat) (x : Exchange),
    Ready s index → loaded i s = some loadedState → requestFrame loadedState = some frame →
    responseLength loadedState = some awaited → s.transport = x.transport s.params.reopenInClose → s.clock = x.clock →
    x.polls →
    ∃ t, exec i s = .next t ∧ t.phase = .idle ∧ t.isOpen = false ∧ t.handle = none ∧ t.closeErr = x.close ∧
      (t.err, t.errInfo) =
        (if (x.bodyError frame.length awaited).1 ≠ .none then x.bodyError frame.length awaited
         else if x.close ≠ 0 then (.driverError, some (.status x.close)) else (.none, none)) ∧
      (t.err ≠ .none → t.bytesWritten = none ∧ t.rdata = none) ∧
      (callsSince s t).countP isCloseCall = 1

/-- `TimeoutError` of a whole transaction: 100 polls, 100 sleeps, no `read`, then the close sequence. Starting `TRANSACT`
from `IDLE` on operands loaded before is the model's choice (log entry 17). -/
def Obligations.TransactionTimesOut : Prop :=
  ∀ (i : Instr) (s loadedState : State) (index : Nat) (frame : List Byte) (x : Exchange),
    Ready s index → loaded i s = some loadedState → requestFrame loadedState = some frame →
    s.transport = x.transport s.params.reopenInClose → s.clock = x.clock →
    x.flush = 0 → x.write = (0, frame.length) → x.pending.all notReady = true → x.pending.length = 99 →
    notReady x.last = true →
    ∃ t, exec i s = .next t ∧ t.err = .timeoutError ∧ t.errInfo = none ∧ t.closeErr = x.close ∧
      t.phase = .idle ∧ t.isOpen = false ∧ t.bytesWritten = none ∧ t.rdata = none ∧
      callsSince s t = x.opening s.params index frame ++ pollCalls x.handle (x.pending ++ [x.last]) ++
        x.closing s.params.reopenInClose index ∧
      (callsSince s t).countP isPoll = 100 ∧ (callsSince s t).countP isSleep = 100 ∧
      (callsSince s t).countP isRead = 0

/-! ## Errors -/

/-- R214: `raise`: the first error is recorded and no result is left; the close sequence is entered exactly if the
operation is a transaction whose session is open, or whose `open` failed with `CLOSE_AFTER_OPEN_FAILURE`; else the block
is idle. No call is made, and every control register (the timeouts with the parameters), every operand register and
`CLOSE_ERR` stay. -/
def Obligations.RaiseAborts : Prop :=
  ∀ (e : ErrorCode) (info : Option ErrorInfo) (s : State),
    let t := raise e info s
    (s.err = .none → t.err = e ∧ t.errInfo = info ∧ t.bytesWritten = none ∧ t.rdata = none) ∧
    (s.err ≠ .none → t.err = s.err ∧ t.errInfo = s.errInfo) ∧
    t.phase = (if (s.op = some .writeRegisters ∨ s.op = some .readRegisters) ∧
        (s.isOpen = true ∨ s.phase = .opening ∧ s.params.closeAfterOpenFailure = true) then .reopening else .idle) ∧
    t.calls = s.calls ∧ t.transport = s.transport ∧ t.isOpen = s.isOpen ∧ t.handle = s.handle ∧
    t.devIndex = s.devIndex ∧ t.configured = s.configured ∧ t.op = s.op ∧ t.devAddr = s.devAddr ∧
    t.regAddr = s.regAddr ∧ t.payload = s.payload ∧ t.length = s.length ∧ t.selIndex = s.selIndex ∧
    t.selSerial = s.selSerial ∧ t.params = s.params ∧ t.closeErr = s.closeErr ∧ t.clock = s.clock ∧ t.draws = s.draws ∧
    t.requests = s.requests

/-- R211: which operation can end with which error. -/
def Obligations.OperationsRaiseOnlyTheirErrors : Prop :=
  ∀ (i : Instr) (s t : State), Inv s → s.phase = .idle → exec i s = .next t →
    (i.hostOp = some .selectIndex → t.err = .none ∨ t.err = .driverError ∨ t.err = .rangeError) ∧
    (i.hostOp = some .selectSerial → t.err = .none ∨ t.err = .driverError ∨ t.err = .deviceNotFoundError) ∧
    (i.hostOp = some .discard → t.err = .none) ∧
    (i.hostOp = some .writeRegisters ∨ i.hostOp = some .readRegisters →
      t.err ≠ .deviceNotFoundError ∧ t.err ≠ .rangeError)

/-! ## The whole machine -/

/-- The invariant holds after reset. -/
def Obligations.ResetIsGood : Prop := Inv State.reset

/-- The invariant is kept by every step of the machine, and by every step of the call-level machine, from every state
that meets it. -/
def Obligations.StepKeepsTheInvariant : Prop :=
  ∀ s t : State, Inv s → (step s = .next t ∨ callStep s = .next t) → Inv t

/-- In a good state the operation in progress is never refused: its next part always answers a next state, and it
is the same state exactly where the call has not returned. That an outstanding call, of the transport or of the clock,
shows as an unchanged state is the model's choice (log entries 2 and 19). -/
def Obligations.OperationsAlwaysGoOn : Prop :=
  ∀ s : State, Inv s → s.phase ≠ .idle →
    ∃ t, step s = .next t ∧ (t = s ↔ awaiting s = true)

/-- R31: control goes only where the phase order allows. That `PHASE` stays `REOPENING` during the best-effort open, so
that `CLOSING` alone follows it, is the model's reading (log entry 22). -/
def Obligations.PhasesFollowTheOrder : Prop :=
  ∀ s t : State, Inv s → callStep s = .next t → t.phase = s.phase ∨ t.phase ∈ successors s.phase

/-- One part is at most one call, and no returned call is ever taken back. -/
def Obligations.OneCallAtATime : Prop :=
  ∀ s t : State, callStep s = .next t → t.calls = s.calls ∨ ∃ c, t.calls = s.calls ++ [c]

/-- `CONFIGURED` and `DEV_INDEX` are written by the two select operations and by `DISCARD` only. -/
def Obligations.OnlySelectAndDiscardConfigure : Prop :=
  ∀ s t : State, callStep s = .next t → (t.configured ≠ s.configured ∨ t.devIndex ≠ s.devIndex) →
    inSelect s.phase = true ∨ (s.phase = .idle ∧ s.requests.head? = some .discard)

/-- Each transaction from a good idle block comes to rest, whatever the transport and the clock answer: over, or waiting
for a call that has not returned (which shows as an unchanged state, log entries 2 and 19); it makes at most 107 transport
calls and 100 sleeps. -/
def Obligations.TransactionsAreBounded : Prop :=
  ∀ (s : State) (i : Instr), Inv s → s.phase = .idle →
    (i.hostOp = some .writeRegisters ∨ i.hostOp = some .readRegisters) →
    (∃ r, exec i s = .refused r) ∨
    ∃ t, exec i s = .next t ∧ settled t = true ∧ t.calls = s.calls ++ callsSince s t ∧
      (callsSince s t).countP (fun c => !isSleep c) ≤ 107 ∧ (callsSince s t).countP isSleep ≤ 100

/-- Each select operation from a good idle block comes to rest, and makes at most one call and one more for each
device. -/
def Obligations.SelectsAreBounded : Prop :=
  ∀ (s : State) (i : Instr) (st : Status) (count : Nat) (rest : List (Status × Nat)), Inv s → s.phase = .idle →
    (i.hostOp = some .selectIndex ∨ i.hostOp = some .selectSerial) → s.transport.counts = (st, count) :: rest →
    (∃ r, exec i s = .refused r) ∨
    ∃ t, exec i s = .next t ∧ settled t = true ∧ t.calls = s.calls ++ callsSince s t ∧
      (callsSince s t).length ≤ 1 + count

/-- R128, for every value of the parameters: a transaction that is over has called `T.close` exactly once if one of its
`open` calls returned 0 or `CLOSE_AFTER_OPEN_FAILURE` is true, else not at all; `T.close` is its last call; with the
default parameters it has called `T.open` exactly once; and `OPEN = 0`. -/
def Obligations.OpenAndCloseAreSymmetric : Prop :=
  ∀ (s t : State) (i : Instr), Inv s → s.phase = .idle →
    (i.hostOp = some .writeRegisters ∨ i.hostOp = some .readRegisters) →
    exec i s = .next t → t.phase = .idle →
    (callsSince s t).countP isCloseCall =
      (if s.params.closeAfterOpenFailure = true ∨ (callsSince s t).any isOpened = true then 1 else 0) ∧
    (∀ c, c ∈ (callsSince s t).dropLast → isCloseCall c = false) ∧
    (s.params.closeAfterOpenFailure = false → s.params.reopenInClose = .viaFlag →
      (callsSince s t).countP isOpenCall = 1) ∧
    t.isOpen = false

/-- The operands are sampled at issue: what the host queues afterwards has no effect on the operation in progress. -/
def Obligations.LaterRequestsDoNotInterfere : Prop :=
  ∀ (s : State) (queued : List Instr), s.phase ≠ .idle →
    (∀ t, step s = .next t → step { s with requests := queued } = .next { t with requests := queued }) ∧
    (∀ r, step s = .refused r → step { s with requests := queued } = .refused r)

/-- R92: of a response exactly the byte at offset 7 is examined: two responses of one length that agree there lead to
next states that differ in `RDATA` at most, for a write in nothing, whatever their headers and trailers (and payloads)
are; or, in a state no run reaches, to the same refusal. -/
def Obligations.OnlyTheAckByteIsExamined : Prop :=
  ∀ (s : State) (n : Nat) (a b : List Byte), s.phase = .checking → responsePayload s = .ok n →
    a.length = 9 + n → b.length = 9 + n → a[7]? = b[7]? →
    (∃ t u, step { s with rxbuf := some a } = .next t ∧ step { s with rxbuf := some b } = .next u ∧
      { t with rdata := none } = { u with rdata := none } ∧ (s.op = some .writeRegisters → t = u)) ∨
    (s.op = some .writeRegisters ∧ s.writeCount = none ∧ s.payload = none ∧ a[7]? = some Config.ack ∧
      ∃ r, step { s with rxbuf := some a } = .refused r ∧ step { s with rxbuf := some b } = .refused r)

/-! ## The step -/

/-- The step of an idle block runs the host's next request: it is `exec` of it, on the state without that request; an
idle block without a request waits. That a step runs the operation whole is the model's choice (log entry 1). -/
def Obligations.StepRunsTheRequest : Prop :=
  ∀ (s : State), s.phase = .idle →
    (s.requests = [] → step s = .next s) ∧
    (∀ i rest, s.requests = i :: rest → i.hostOp.isSome = true → step s = exec i { s with requests := rest }) ∧
    (∀ i rest, s.requests = i :: rest → i.hostOp = none → step s = .refused .notIssuable)

/-- The step of a block in a phase of one micro-step is `exec` of that micro-step. Running these as instructions of their
own is the model's choice (log entry 17). So is what two clauses rest on: `OPEN_SESSION` at `OPEN = 1` with `set_timeouts`
due makes that call, where R125 returns at once (log entries 12 and 17), and `CLOSE_SESSION` run in `CLOSING` goes on without
R126's best-effort open (log entry 17). -/
def Obligations.StepRunsThePhasesMicroStep : Prop :=
  ∀ (s : State),
    (s.phase = .enumCount → s.scanCount = none → step s = exec .enumerate s) ∧
    (s.phase = .flushing → step s = exec .flush s) ∧
    (s.phase = .transmitting → step s = exec .transmit s) ∧
    (∀ n, s.phase = .receiving → responsePayload s = .ok n → step s = exec (.receive (9 + n)) s) ∧
    (s.phase = .opening → s.isOpen = true → step s = exec .openSession s) ∧
    (s.phase = .closing → step s = exec .closeSession s)

/-- The step of a block that has received a response runs the response that the decoder reads from `RXBUF`. -/
def Obligations.StepRunsTheDecodedResponse : Prop :=
  ∀ (s : State) (bytes : List Byte) (n : Nat) (i : Instr), s.phase = .checking → s.rxbuf = some bytes →
    responsePayload s = .ok n → decode (responseChannel s n) bytes = .ok i → step s = exec i s

/-- A word of the opcode table, placed, is what the next step runs: a request by `exec` on a configured block, a
response by `exec` in the transaction it answers. Where a word is placed is the model's choice (log entry 10). -/
def Obligations.StepRunsThePlacedWord : Prop :=
  ∀ (s : State) (nbits w : Nat) (i : Instr), decodeTableWord nbits w = some i →
    (i.hostOp.isSome = true → step (s.withFetchWord nbits w) =
      exec i { s with phase := .idle, configured := true, devIndex := some (s.devIndex.getD 0) }) ∧
    (i.hostOp = none → step (s.withFetchWord nbits w) = exec i (s.withFetchWord nbits w))

/-- The call-level machine refines the meanings: stepping it call by call from an idle block, from the host's request
on, reaches what `exec` of the request answers. It ties the model's two granularities together (log entry 1). -/
def Obligations.CallStepsReachTheMeaning : Prop :=
  ∀ (s : State) (i : Instr) (rest : List Instr), s.phase = .idle → s.requests = i :: rest → i.hostOp.isSome = true →
    ∃ n, callCore.run n s = exec i { s with requests := rest }
end

