-- ==== Sys2Proof/Laws/Decode.lean ====
section
/-! SUPPORT. The small lemmas of the decoder and the encoder: what a fitting operand is, the two bytes of a 16-bit
value, the lengths of the frames, and what an encoded request was made from. -/

namespace Sys2Proof

/-! ## The checksum -/

theorem sum8_nil : sum8 [] = 0#8 := rfl

theorem foldl_add (acc : Byte) (l : List Byte) :
    l.foldl (fun a b => a + b) acc = acc + l.foldl (fun a b => a + b) 0#8 := by
  induction l generalizing acc with
  | nil => simp
  | cons b l ih => simp only [List.foldl_cons]; rw [ih, ih (0#8 + b)]; simp [BitVec.add_assoc]

theorem sum8_cons (b : Byte) (l : List Byte) : sum8 (b :: l) = b + sum8 l := by
  simp only [sum8, List.foldl_cons]; rw [foldl_add]; simp

/-! ## Operands -/

/-- A host integer is a byte exactly where it is the integer of one. -/
theorem toByte?_some {v : Int} {b : Byte} : toByte? v = some b ↔ v = ofByte b := by
  unfold toByte? fitsByte ofByte
  constructor
  · intro h
    split at h
    · rename_i hc
      simp at hc h
      subst h
      simp
      omega
    · cases h
  · rintro rfl
    have := b.isLt
    have h : (decide (0 ≤ Int.ofNat b.toNat) && decide (Int.ofNat b.toNat < 256)) = true := by simp; omega
    rw [if_pos h]; simp
theorem toByte?_ofByte (b : Byte) : toByte? (ofByte b) = some b := toByte?_some.2 rfl

/-- A host integer is a 16-bit value exactly where it is the integer of one. -/
theorem toHalf?_some {v : Int} {n : Half} : toHalf? v = some n ↔ v = Int.ofNat n.toNat := by
  unfold toHalf? fitsHalf
  constructor
  · intro h
    split at h
    · rename_i hc
      simp at hc h
      subst h
      simp
      omega
    · cases h
  · rintro rfl
    have := n.isLt
    have h : (decide (0 ≤ Int.ofNat n.toNat) && decide (Int.ofNat n.toNat < 65536)) = true := by simp; omega
    rw [if_pos h]; simp

/-- A host payload is a byte sequence exactly where it is the integers of one. -/
theorem toBytes?_some {vs : List Int} {bs : List Byte} : toBytes? vs = some bs ↔ vs = bs.map ofByte := by
  induction vs generalizing bs with
  | nil => cases bs <;> simp [toBytes?]
  | cons v vs ih =>
    simp only [toBytes?]
    constructor
    · intro h
      split at h
      · rename_i b bs' h1 h2
        cases h
        simp [toByte?_some.1 h1, ih.1 h2]
      · cases h
    · intro h
      cases bs with
      | nil => simp at h
      | cons b bs' =>
        simp at h
        rw [toByte?_some.2 h.1, ih.2 h.2]

theorem fitsByte_ofByte (b : Byte) : fitsByte (ofByte b) = true := by
  have := b.isLt
  simp [fitsByte, ofByte]; omega

theorem all_fitsByte_ofByte (p : List Byte) : (p.map ofByte).all fitsByte = true := by
  simp [fitsByte_ofByte]

/-- The two wire bytes of a 16-bit value give it back. -/
theorem be16_hi_lo {n : Nat} (h : n < 65536) : be16 (hi8 n) (lo8 n) = n := by
  simp [be16, hi8, lo8]; omega

/-! ## Frames -/

@[simp] theorem buildW_length (d r : Byte) (p : List Byte) : (buildW d r p).length = p.length + 8 := by
  simp [buildW, withChecksum, bodyW]

@[simp] theorem buildR_length (d r : Byte) (n : Half) : (buildR d r n).length = 10 := by
  simp [buildR, withChecksum, bodyR]

@[simp] theorem getLast?_withChecksum (b : List Byte) : (withChecksum b).getLast? = some (sum8 b) := by
  simp [withChecksum]

@[simp] theorem dropLast_withChecksum (b : List Byte) : (withChecksum b).dropLast = b := by simp [withChecksum]

/-- What an encoded write request was made from. -/
theorem encode_write {dev reg : Int} {p : List Int} {bytes : List Byte}
    (h : encode (.writeRegisters dev reg p) = some bytes) :
    ∃ d r q, dev = ofByte d ∧ reg = ofByte r ∧ p = q.map ofByte ∧ q.length ≤ 65531 ∧ bytes = buildW d r q := by
  simp only [encode] at h
  split at h
  · rename_i d r q h1 h2 h3
    split at h
    · rename_i hl; cases h
      exact ⟨d, r, q, toByte?_some.1 h1, toByte?_some.1 h2, toBytes?_some.1 h3, hl, rfl⟩
    · cases h
  · cases h

/-- What an encoded read request was made from. -/
theorem encode_read {dev reg n : Int} {bytes : List Byte} (h : encode (.readRegisters dev reg n) = some bytes) :
    ∃ d r m, dev = ofByte d ∧ reg = ofByte r ∧ n = Int.ofNat m.toNat ∧ bytes = buildR d r m := by
  simp only [encode] at h
  split at h
  · rename_i d r m h1 h2 h3
    cases h
    exact ⟨d, r, m, toByte?_some.1 h1, toByte?_some.1 h2, toHalf?_some.1 h3, rfl⟩
  · cases h

end Sys2Proof
end

