-- ==== Sys2Proof/Laws/State.lean ====
section
/-! SUPPORT. One lemma per field per named update of the state: what the field is after it, true by unfolding the
update once. -/

namespace Sys2Proof.Machine

/-! ## goTo -/

@[simp] theorem goTo_configured (p : Phase) (s : State) : (goTo p s).configured = s.configured := rfl
@[simp] theorem goTo_devIndex (p : Phase) (s : State) : (goTo p s).devIndex = s.devIndex := rfl
@[simp] theorem goTo_handle (p : Phase) (s : State) : (goTo p s).handle = s.handle := rfl
@[simp] theorem goTo_isOpen (p : Phase) (s : State) : (goTo p s).isOpen = s.isOpen := rfl
@[simp] theorem goTo_params (p : Phase) (s : State) : (goTo p s).params = s.params := rfl
@[simp] theorem goTo_op (p : Phase) (s : State) : (goTo p s).op = s.op := rfl
@[simp] theorem goTo_devAddr (p : Phase) (s : State) : (goTo p s).devAddr = s.devAddr := rfl
@[simp] theorem goTo_regAddr (p : Phase) (s : State) : (goTo p s).regAddr = s.regAddr := rfl
@[simp] theorem goTo_length (p : Phase) (s : State) : (goTo p s).length = s.length := rfl
@[simp] theorem goTo_payload (p : Phase) (s : State) : (goTo p s).payload = s.payload := rfl
@[simp] theorem goTo_selIndex (p : Phase) (s : State) : (goTo p s).selIndex = s.selIndex := rfl
@[simp] theorem goTo_selSerial (p : Phase) (s : State) : (goTo p s).selSerial = s.selSerial := rfl
@[simp] theorem goTo_err (p : Phase) (s : State) : (goTo p s).err = s.err := rfl
@[simp] theorem goTo_errInfo (p : Phase) (s : State) : (goTo p s).errInfo = s.errInfo := rfl
@[simp] theorem goTo_closeErr (p : Phase) (s : State) : (goTo p s).closeErr = s.closeErr := rfl
@[simp] theorem goTo_bytesWritten (p : Phase) (s : State) : (goTo p s).bytesWritten = s.bytesWritten := rfl
@[simp] theorem goTo_rdata (p : Phase) (s : State) : (goTo p s).rdata = s.rdata := rfl
@[simp] theorem goTo_phase (p : Phase) (s : State) : (goTo p s).phase = p := rfl
@[simp] theorem goTo_pollCnt (p : Phase) (s : State) : (goTo p s).pollCnt = s.pollCnt := rfl
@[simp] theorem goTo_scanIdx (p : Phase) (s : State) : (goTo p s).scanIdx = s.scanIdx := rfl
@[simp] theorem goTo_txbuf (p : Phase) (s : State) : (goTo p s).txbuf = s.txbuf := rfl
@[simp] theorem goTo_rxbuf (p : Phase) (s : State) : (goTo p s).rxbuf = s.rxbuf := rfl
@[simp] theorem goTo_qstatus (p : Phase) (s : State) : (goTo p s).qstatus = s.qstatus := rfl
@[simp] theorem goTo_scanCount (p : Phase) (s : State) : (goTo p s).scanCount = s.scanCount := rfl
@[simp] theorem goTo_scanFound (p : Phase) (s : State) : (goTo p s).scanFound = s.scanFound := rfl
@[simp] theorem goTo_setTimeoutsDue (p : Phase) (s : State) : (goTo p s).setTimeoutsDue = s.setTimeoutsDue := rfl
@[simp] theorem goTo_writeCount (p : Phase) (s : State) : (goTo p s).writeCount = s.writeCount := rfl
@[simp] theorem goTo_checksum (p : Phase) (s : State) : (goTo p s).checksum = s.checksum := rfl
@[simp] theorem goTo_draws (p : Phase) (s : State) : (goTo p s).draws = s.draws := rfl
@[simp] theorem goTo_requests (p : Phase) (s : State) : (goTo p s).requests = s.requests := rfl
@[simp] theorem goTo_transport (p : Phase) (s : State) : (goTo p s).transport = s.transport := rfl
@[simp] theorem goTo_clock (p : Phase) (s : State) : (goTo p s).clock = s.clock := rfl
@[simp] theorem goTo_calls (p : Phase) (s : State) : (goTo p s).calls = s.calls := rfl

/-! ## goIdle -/

@[simp] theorem goIdle_configured (s : State) : (goIdle s).configured = s.configured := rfl
@[simp] theorem goIdle_devIndex (s : State) : (goIdle s).devIndex = s.devIndex := rfl
@[simp] theorem goIdle_handle (s : State) : (goIdle s).handle = s.handle := rfl
@[simp] theorem goIdle_isOpen (s : State) : (goIdle s).isOpen = s.isOpen := rfl
@[simp] theorem goIdle_params (s : State) : (goIdle s).params = s.params := rfl
@[simp] theorem goIdle_op (s : State) : (goIdle s).op = s.op := rfl
@[simp] theorem goIdle_devAddr (s : State) : (goIdle s).devAddr = s.devAddr := rfl
@[simp] theorem goIdle_regAddr (s : State) : (goIdle s).regAddr = s.regAddr := rfl
@[simp] theorem goIdle_length (s : State) : (goIdle s).length = s.length := rfl
@[simp] theorem goIdle_payload (s : State) : (goIdle s).payload = s.payload := rfl
@[simp] theorem goIdle_selIndex (s : State) : (goIdle s).selIndex = s.selIndex := rfl
@[simp] theorem goIdle_selSerial (s : State) : (goIdle s).selSerial = s.selSerial := rfl
@[simp] theorem goIdle_err (s : State) : (goIdle s).err = s.err := rfl
@[simp] theorem goIdle_errInfo (s : State) : (goIdle s).errInfo = s.errInfo := rfl
@[simp] theorem goIdle_closeErr (s : State) : (goIdle s).closeErr = s.closeErr := rfl
@[simp] theorem goIdle_bytesWritten (s : State) : (goIdle s).bytesWritten = s.bytesWritten := rfl
@[simp] theorem goIdle_rdata (s : State) : (goIdle s).rdata = s.rdata := rfl
@[simp] theorem goIdle_phase (s : State) : (goIdle s).phase = .idle := rfl
@[simp] theorem goIdle_pollCnt (s : State) : (goIdle s).pollCnt = none := rfl
@[simp] theorem goIdle_scanIdx (s : State) : (goIdle s).scanIdx = none := rfl
@[simp] theorem goIdle_txbuf (s : State) : (goIdle s).txbuf = none := rfl
@[simp] theorem goIdle_rxbuf (s : State) : (goIdle s).rxbuf = none := rfl
@[simp] theorem goIdle_qstatus (s : State) : (goIdle s).qstatus = none := rfl
@[simp] theorem goIdle_scanCount (s : State) : (goIdle s).scanCount = none := rfl
@[simp] theorem goIdle_scanFound (s : State) : (goIdle s).scanFound = none := rfl
@[simp] theorem goIdle_setTimeoutsDue (s : State) : (goIdle s).setTimeoutsDue = false := rfl
@[simp] theorem goIdle_writeCount (s : State) : (goIdle s).writeCount = none := rfl
@[simp] theorem goIdle_checksum (s : State) : (goIdle s).checksum = none := rfl
@[simp] theorem goIdle_draws (s : State) : (goIdle s).draws = s.draws := rfl
@[simp] theorem goIdle_requests (s : State) : (goIdle s).requests = s.requests := rfl
@[simp] theorem goIdle_transport (s : State) : (goIdle s).transport = s.transport := rfl
@[simp] theorem goIdle_clock (s : State) : (goIdle s).clock = s.clock := rfl
@[simp] theorem goIdle_calls (s : State) : (goIdle s).calls = s.calls := rfl

/-! ## clearResults -/

@[simp] theorem clearResults_configured (s : State) : (clearResults s).configured = s.configured := rfl
@[simp] theorem clearResults_devIndex (s : State) : (clearResults s).devIndex = s.devIndex := rfl
@[simp] theorem clearResults_handle (s : State) : (clearResults s).handle = s.handle := rfl
@[simp] theorem clearResults_isOpen (s : State) : (clearResults s).isOpen = s.isOpen := rfl
@[simp] theorem clearResults_params (s : State) : (clearResults s).params = s.params := rfl
@[simp] theorem clearResults_op (s : State) : (clearResults s).op = s.op := rfl
@[simp] theorem clearResults_devAddr (s : State) : (clearResults s).devAddr = s.devAddr := rfl
@[simp] theorem clearResults_regAddr (s : State) : (clearResults s).regAddr = s.regAddr := rfl
@[simp] theorem clearResults_length (s : State) : (clearResults s).length = s.length := rfl
@[simp] theorem clearResults_payload (s : State) : (clearResults s).payload = s.payload := rfl
@[simp] theorem clearResults_selIndex (s : State) : (clearResults s).selIndex = s.selIndex := rfl
@[simp] theorem clearResults_selSerial (s : State) : (clearResults s).selSerial = s.selSerial := rfl
@[simp] theorem clearResults_err (s : State) : (clearResults s).err = .none := rfl
@[simp] theorem clearResults_errInfo (s : State) : (clearResults s).errInfo = none := rfl
@[simp] theorem clearResults_closeErr (s : State) : (clearResults s).closeErr = 0 := rfl
@[simp] theorem clearResults_bytesWritten (s : State) : (clearResults s).bytesWritten = none := rfl
@[simp] theorem clearResults_rdata (s : State) : (clearResults s).rdata = none := rfl
@[simp] theorem clearResults_phase (s : State) : (clearResults s).phase = s.phase := rfl
@[simp] theorem clearResults_pollCnt (s : State) : (clearResults s).pollCnt = s.pollCnt := rfl
@[simp] theorem clearResults_scanIdx (s : State) : (clearResults s).scanIdx = s.scanIdx := rfl
@[simp] theorem clearResults_txbuf (s : State) : (clearResults s).txbuf = s.txbuf := rfl
@[simp] theorem clearResults_rxbuf (s : State) : (clearResults s).rxbuf = s.rxbuf := rfl
@[simp] theorem clearResults_qstatus (s : State) : (clearResults s).qstatus = s.qstatus := rfl
@[simp] theorem clearResults_scanCount (s : State) : (clearResults s).scanCount = s.scanCount := rfl
@[simp] theorem clearResults_scanFound (s : State) : (clearResults s).scanFound = s.scanFound := rfl
@[simp] theorem clearResults_setTimeoutsDue (s : State) : (clearResults s).setTimeoutsDue = s.setTimeoutsDue := rfl
@[simp] theorem clearResults_writeCount (s : State) : (clearResults s).writeCount = s.writeCount := rfl
@[simp] theorem clearResults_checksum (s : State) : (clearResults s).checksum = s.checksum := rfl
@[simp] theorem clearResults_draws (s : State) : (clearResults s).draws = s.draws := rfl
@[simp] theorem clearResults_requests (s : State) : (clearResults s).requests = s.requests := rfl
@[simp] theorem clearResults_transport (s : State) : (clearResults s).transport = s.transport := rfl
@[simp] theorem clearResults_clock (s : State) : (clearResults s).clock = s.clock := rfl
@[simp] theorem clearResults_calls (s : State) : (clearResults s).calls = s.calls := rfl

/-! ## enterClose -/

@[simp] theorem enterClose_configured (s : State) : (enterClose s).configured = s.configured := rfl
@[simp] theorem enterClose_devIndex (s : State) : (enterClose s).devIndex = s.devIndex := rfl
@[simp] theorem enterClose_handle (s : State) : (enterClose s).handle = s.handle := rfl
@[simp] theorem enterClose_isOpen (s : State) : (enterClose s).isOpen = s.isOpen := rfl
@[simp] theorem enterClose_params (s : State) : (enterClose s).params = s.params := rfl
@[simp] theorem enterClose_op (s : State) : (enterClose s).op = s.op := rfl
@[simp] theorem enterClose_devAddr (s : State) : (enterClose s).devAddr = s.devAddr := rfl
@[simp] theorem enterClose_regAddr (s : State) : (enterClose s).regAddr = s.regAddr := rfl
@[simp] theorem enterClose_length (s : State) : (enterClose s).length = s.length := rfl
@[simp] theorem enterClose_payload (s : State) : (enterClose s).payload = s.payload := rfl
@[simp] theorem enterClose_selIndex (s : State) : (enterClose s).selIndex = s.selIndex := rfl
@[simp] theorem enterClose_selSerial (s : State) : (enterClose s).selSerial = s.selSerial := rfl
@[simp] theorem enterClose_err (s : State) : (enterClose s).err = s.err := rfl
@[simp] theorem enterClose_errInfo (s : State) : (enterClose s).errInfo = s.errInfo := rfl
@[simp] theorem enterClose_closeErr (s : State) : (enterClose s).closeErr = s.closeErr := rfl
@[simp] theorem enterClose_bytesWritten (s : State) : (enterClose s).bytesWritten = s.bytesWritten := rfl
@[simp] theorem enterClose_rdata (s : State) : (enterClose s).rdata = s.rdata := rfl
@[simp] theorem enterClose_phase (s : State) : (enterClose s).phase = .reopening := rfl
@[simp] theorem enterClose_pollCnt (s : State) : (enterClose s).pollCnt = s.pollCnt := rfl
@[simp] theorem enterClose_scanIdx (s : State) : (enterClose s).scanIdx = s.scanIdx := rfl
@[simp] theorem enterClose_txbuf (s : State) : (enterClose s).txbuf = none := rfl
@[simp] theorem enterClose_rxbuf (s : State) : (enterClose s).rxbuf = none := rfl
@[simp] theorem enterClose_qstatus (s : State) : (enterClose s).qstatus = none := rfl
@[simp] theorem enterClose_scanCount (s : State) : (enterClose s).scanCount = s.scanCount := rfl
@[simp] theorem enterClose_scanFound (s : State) : (enterClose s).scanFound = s.scanFound := rfl
@[simp] theorem enterClose_setTimeoutsDue (s : State) : (enterClose s).setTimeoutsDue = false := rfl
@[simp] theorem enterClose_writeCount (s : State) : (enterClose s).writeCount = s.writeCount := rfl
@[simp] theorem enterClose_checksum (s : State) : (enterClose s).checksum = s.checksum := rfl
@[simp] theorem enterClose_draws (s : State) : (enterClose s).draws = s.draws := rfl
@[simp] theorem enterClose_requests (s : State) : (enterClose s).requests = s.requests := rfl
@[simp] theorem enterClose_transport (s : State) : (enterClose s).transport = s.transport := rfl
@[simp] theorem enterClose_clock (s : State) : (enterClose s).clock = s.clock := rfl
@[simp] theorem enterClose_calls (s : State) : (enterClose s).calls = s.calls := rfl

/-! ## beginOperation -/

@[simp] theorem beginOperation_configured (p : Phase) (s : State) : (beginOperation p s).configured = s.configured := rfl
@[simp] theorem beginOperation_devIndex (p : Phase) (s : State) : (beginOperation p s).devIndex = s.devIndex := rfl
@[simp] theorem beginOperation_handle (p : Phase) (s : State) : (beginOperation p s).handle = s.handle := rfl
@[simp] theorem beginOperation_isOpen (p : Phase) (s : State) : (beginOperation p s).isOpen = s.isOpen := rfl
@[simp] theorem beginOperation_params (p : Phase) (s : State) : (beginOperation p s).params = s.params := rfl
@[simp] theorem beginOperation_op (p : Phase) (s : State) : (beginOperation p s).op = s.op := rfl
@[simp] theorem beginOperation_devAddr (p : Phase) (s : State) : (beginOperation p s).devAddr = s.devAddr := rfl
@[simp] theorem beginOperation_regAddr (p : Phase) (s : State) : (beginOperation p s).regAddr = s.regAddr := rfl
@[simp] theorem beginOperation_length (p : Phase) (s : State) : (beginOperation p s).length = s.length := rfl
@[simp] theorem beginOperation_payload (p : Phase) (s : State) : (beginOperation p s).payload = s.payload := rfl
@[simp] theorem beginOperation_selIndex (p : Phase) (s : State) : (beginOperation p s).selIndex = s.selIndex := rfl
@[simp] theorem beginOperation_selSerial (p : Phase) (s : State) : (beginOperation p s).selSerial = s.selSerial := rfl
@[simp] theorem beginOperation_err (p : Phase) (s : State) : (beginOperation p s).err = .none := rfl
@[simp] theorem beginOperation_errInfo (p : Phase) (s : State) : (beginOperation p s).errInfo = none := rfl
@[simp] theorem beginOperation_closeErr (p : Phase) (s : State) : (beginOperation p s).closeErr = 0 := rfl
@[simp] theorem beginOperation_bytesWritten (p : Phase) (s : State) : (beginOperation p s).bytesWritten = none := rfl
@[simp] theorem beginOperation_rdata (p : Phase) (s : State) : (beginOperation p s).rdata = none := rfl
@[simp] theorem beginOperation_phase (p : Phase) (s : State) : (beginOperation p s).phase = p := rfl
@[simp] theorem beginOperation_pollCnt (p : Phase) (s : State) : (beginOperation p s).pollCnt = s.pollCnt := rfl
@[simp] theorem beginOperation_scanIdx (p : Phase) (s : State) : (beginOperation p s).scanIdx = s.scanIdx := rfl
@[simp] theorem beginOperation_txbuf (p : Phase) (s : State) : (beginOperation p s).txbuf = s.txbuf := rfl
@[simp] theorem beginOperation_rxbuf (p : Phase) (s : State) : (beginOperation p s).rxbuf = s.rxbuf := rfl
@[simp] theorem beginOperation_qstatus (p : Phase) (s : State) : (beginOperation p s).qstatus = s.qstatus := rfl
@[simp] theorem beginOperation_scanCount (p : Phase) (s : State) : (beginOperation p s).scanCount = s.scanCount := rfl
@[simp] theorem beginOperation_scanFound (p : Phase) (s : State) : (beginOperation p s).scanFound = s.scanFound := rfl
@[simp] theorem beginOperation_setTimeoutsDue (p : Phase) (s : State) : (beginOperation p s).setTimeoutsDue = s.setTimeoutsDue := rfl
@[simp] theorem beginOperation_writeCount (p : Phase) (s : State) : (beginOperation p s).writeCount = s.writeCount := rfl
@[simp] theorem beginOperation_checksum (p : Phase) (s : State) : (beginOperation p s).checksum = s.checksum := rfl
@[simp] theorem beginOperation_draws (p : Phase) (s : State) : (beginOperation p s).draws = s.draws := rfl
@[simp] theorem beginOperation_requests (p : Phase) (s : State) : (beginOperation p s).requests = s.requests := rfl
@[simp] theorem beginOperation_transport (p : Phase) (s : State) : (beginOperation p s).transport = s.transport := rfl
@[simp] theorem beginOperation_clock (p : Phase) (s : State) : (beginOperation p s).clock = s.clock := rfl
@[simp] theorem beginOperation_calls (p : Phase) (s : State) : (beginOperation p s).calls = s.calls := rfl

/-! ## configure -/

@[simp] theorem configure_configured (i : Nat) (s : State) : (configure i s).configured = true := rfl
@[simp] theorem configure_devIndex (i : Nat) (s : State) : (configure i s).devIndex = some i := rfl
@[simp] theorem configure_handle (i : Nat) (s : State) : (configure i s).handle = s.handle := rfl
@[simp] theorem configure_isOpen (i : Nat) (s : State) : (configure i s).isOpen = s.isOpen := rfl
@[simp] theorem configure_params (i : Nat) (s : State) : (configure i s).params = s.params := rfl
@[simp] theorem configure_op (i : Nat) (s : State) : (configure i s).op = s.op := rfl
@[simp] theorem configure_devAddr (i : Nat) (s : State) : (configure i s).devAddr = s.devAddr := rfl
@[simp] theorem configure_regAddr (i : Nat) (s : State) : (configure i s).regAddr = s.regAddr := rfl
@[simp] theorem configure_length (i : Nat) (s : State) : (configure i s).length = s.length := rfl
@[simp] theorem configure_payload (i : Nat) (s : State) : (configure i s).payload = s.payload := rfl
@[simp] theorem configure_selIndex (i : Nat) (s : State) : (configure i s).selIndex = s.selIndex := rfl
@[simp] theorem configure_selSerial (i : Nat) (s : State) : (configure i s).selSerial = s.selSerial := rfl
@[simp] theorem configure_err (i : Nat) (s : State) : (configure i s).err = s.err := rfl
@[simp] theorem configure_errInfo (i : Nat) (s : State) : (configure i s).errInfo = s.errInfo := rfl
@[simp] theorem configure_closeErr (i : Nat) (s : State) : (configure i s).closeErr = s.closeErr := rfl
@[simp] theorem configure_bytesWritten (i : Nat) (s : State) : (configure i s).bytesWritten = s.bytesWritten := rfl
@[simp] theorem configure_rdata (i : Nat) (s : State) : (configure i s).rdata = s.rdata := rfl
@[simp] theorem configure_phase (i : Nat) (s : State) : (configure i s).phase = .idle := rfl
@[simp] theorem configure_pollCnt (i : Nat) (s : State) : (configure i s).pollCnt = none := rfl
@[simp] theorem configure_scanIdx (i : Nat) (s : State) : (configure i s).scanIdx = none := rfl
@[simp] theorem configure_txbuf (i : Nat) (s : State) : (configure i s).txbuf = none := rfl
@[simp] theorem configure_rxbuf (i : Nat) (s : State) : (configure i s).rxbuf = none := rfl
@[simp] theorem configure_qstatus (i : Nat) (s : State) : (configure i s).qstatus = none := rfl
@[simp] theorem configure_scanCount (i : Nat) (s : State) : (configure i s).scanCount = none := rfl
@[simp] theorem configure_scanFound (i : Nat) (s : State) : (configure i s).scanFound = none := rfl
@[simp] theorem configure_setTimeoutsDue (i : Nat) (s : State) : (configure i s).setTimeoutsDue = false := rfl
@[simp] theorem configure_writeCount (i : Nat) (s : State) : (configure i s).writeCount = none := rfl
@[simp] theorem configure_checksum (i : Nat) (s : State) : (configure i s).checksum = none := rfl
@[simp] theorem configure_draws (i : Nat) (s : State) : (configure i s).draws = s.draws := rfl
@[simp] theorem configure_requests (i : Nat) (s : State) : (configure i s).requests = s.requests := rfl
@[simp] theorem configure_transport (i : Nat) (s : State) : (configure i s).transport = s.transport := rfl
@[simp] theorem configure_clock (i : Nat) (s : State) : (configure i s).clock = s.clock := rfl
@[simp] theorem configure_calls (i : Nat) (s : State) : (configure i s).calls = s.calls := rfl

/-! ## record -/

@[simp] theorem record_configured (c : Call) (s : State) : (record c s).configured = s.configured := rfl
@[simp] theorem record_devIndex (c : Call) (s : State) : (record c s).devIndex = s.devIndex := rfl
@[simp] theorem record_handle (c : Call) (s : State) : (record c s).handle = s.handle := rfl
@[simp] theorem record_isOpen (c : Call) (s : State) : (record c s).isOpen = s.isOpen := rfl
@[simp] theorem record_params (c : Call) (s : State) : (record c s).params = s.params := rfl
@[simp] theorem record_op (c : Call) (s : State) : (record c s).op = s.op := rfl
@[simp] theorem record_devAddr (c : Call) (s : State) : (record c s).devAddr = s.devAddr := rfl
@[simp] theorem record_regAddr (c : Call) (s : State) : (record c s).regAddr = s.regAddr := rfl
@[simp] theorem record_length (c : Call) (s : State) : (record c s).length = s.length := rfl
@[simp] theorem record_payload (c : Call) (s : State) : (record c s).payload = s.payload := rfl
@[simp] theorem record_selIndex (c : Call) (s : State) : (record c s).selIndex = s.selIndex := rfl
@[simp] theorem record_selSerial (c : Call) (s : State) : (record c s).selSerial = s.selSerial := rfl
@[simp] theorem record_err (c : Call) (s : State) : (record c s).err = s.err := rfl
@[simp] theorem record_errInfo (c : Call) (s : State) : (record c s).errInfo = s.errInfo := rfl
@[simp] theorem record_closeErr (c : Call) (s : State) : (record c s).closeErr = s.closeErr := rfl
@[simp] theorem record_bytesWritten (c : Call) (s : State) : (record c s).bytesWritten = s.bytesWritten := rfl
@[simp] theorem record_rdata (c : Call) (s : State) : (record c s).rdata = s.rdata := rfl
@[simp] theorem record_phase (c : Call) (s : State) : (record c s).phase = s.phase := rfl
@[simp] theorem record_pollCnt (c : Call) (s : State) : (record c s).pollCnt = s.pollCnt := rfl
@[simp] theorem record_scanIdx (c : Call) (s : State) : (record c s).scanIdx = s.scanIdx := rfl
@[simp] theorem record_txbuf (c : Call) (s : State) : (record c s).txbuf = s.txbuf := rfl
@[simp] theorem record_rxbuf (c : Call) (s : State) : (record c s).rxbuf = s.rxbuf := rfl
@[simp] theorem record_qstatus (c : Call) (s : State) : (record c s).qstatus = s.qstatus := rfl
@[simp] theorem record_scanCount (c : Call) (s : State) : (record c s).scanCount = s.scanCount := rfl
@[simp] theorem record_scanFound (c : Call) (s : State) : (record c s).scanFound = s.scanFound := rfl
@[simp] theorem record_setTimeoutsDue (c : Call) (s : State) : (record c s).setTimeoutsDue = s.setTimeoutsDue := rfl
@[simp] theorem record_writeCount (c : Call) (s : State) : (record c s).writeCount = s.writeCount := rfl
@[simp] theorem record_checksum (c : Call) (s : State) : (record c s).checksum = s.checksum := rfl
@[simp] theorem record_draws (c : Call) (s : State) : (record c s).draws = s.draws := rfl
@[simp] theorem record_requests (c : Call) (s : State) : (record c s).requests = s.requests := rfl
@[simp] theorem record_transport (c : Call) (s : State) : (record c s).transport = s.transport := rfl
@[simp] theorem record_clock (c : Call) (s : State) : (record c s).clock = s.clock := rfl
@[simp] theorem record_calls (c : Call) (s : State) : (record c s).calls = s.calls ++ [c] := rfl

/-! ## sessionClosed -/

@[simp] theorem sessionClosed_configured (st : Status) (n : Nat) (s : State) : (sessionClosed st n s).configured = s.configured := rfl
@[simp] theorem sessionClosed_devIndex (st : Status) (n : Nat) (s : State) : (sessionClosed st n s).devIndex = s.devIndex := rfl
@[simp] theorem sessionClosed_handle (st : Status) (n : Nat) (s : State) : (sessionClosed st n s).handle = none := rfl
@[simp] theorem sessionClosed_isOpen (st : Status) (n : Nat) (s : State) : (sessionClosed st n s).isOpen = false := rfl
@[simp] theorem sessionClosed_params (st : Status) (n : Nat) (s : State) : (sessionClosed st n s).params = s.params := rfl
@[simp] theorem sessionClosed_op (st : Status) (n : Nat) (s : State) : (sessionClosed st n s).op = s.op := rfl
@[simp] theorem sessionClosed_devAddr (st : Status) (n : Nat) (s : State) : (sessionClosed st n s).devAddr = s.devAddr := rfl
@[simp] theorem sessionClosed_regAddr (st : Status) (n : Nat) (s : State) : (sessionClosed st n s).regAddr = s.regAddr := rfl
@[simp] theorem sessionClosed_length (st : Status) (n : Nat) (s : State) : (sessionClosed st n s).length = s.length := rfl
@[simp] theorem sessionClosed_payload (st : Status) (n : Nat) (s : State) : (sessionClosed st n s).payload = s.payload := rfl
@[simp] theorem sessionClosed_selIndex (st : Status) (n : Nat) (s : State) : (sessionClosed st n s).selIndex = s.selIndex := rfl
@[simp] theorem sessionClosed_selSerial (st : Status) (n : Nat) (s : State) : (sessionClosed st n s).selSerial = s.selSerial := rfl
@[simp] theorem sessionClosed_err (st : Status) (n : Nat) (s : State) : (sessionClosed st n s).err = s.err := rfl
@[simp] theorem sessionClosed_errInfo (st : Status) (n : Nat) (s : State) : (sessionClosed st n s).errInfo = s.errInfo := rfl
@[simp] theorem sessionClosed_closeErr (st : Status) (n : Nat) (s : State) : (sessionClosed st n s).closeErr = st := rfl
@[simp] theorem sessionClosed_bytesWritten (st : Status) (n : Nat) (s : State) : (sessionClosed st n s).bytesWritten = s.bytesWritten := rfl
@[simp] theorem sessionClosed_rdata (st : Status) (n : Nat) (s : State) : (sessionClosed st n s).rdata = s.rdata := rfl
@[simp] theorem sessionClosed_phase (st : Status) (n : Nat) (s : State) : (sessionClosed st n s).phase = s.phase := rfl
@[simp] theorem sessionClosed_pollCnt (st : Status) (n : Nat) (s : State) : (sessionClosed st n s).pollCnt = s.pollCnt := rfl
@[simp] theorem sessionClosed_scanIdx (st : Status) (n : Nat) (s : State) : (sessionClosed st n s).scanIdx = s.scanIdx := rfl
@[simp] theorem sessionClosed_txbuf (st : Status) (n : Nat) (s : State) : (sessionClosed st n s).txbuf = s.txbuf := rfl
@[simp] theorem sessionClosed_rxbuf (st : Status) (n : Nat) (s : State) : (sessionClosed st n s).rxbuf = s.rxbuf := rfl
@[simp] theorem sessionClosed_qstatus (st : Status) (n : Nat) (s : State) : (sessionClosed st n s).qstatus = s.qstatus := rfl
@[simp] theorem sessionClosed_scanCount (st : Status) (n : Nat) (s : State) : (sessionClosed st n s).scanCount = s.scanCount := rfl
@[simp] theorem sessionClosed_scanFound (st : Status) (n : Nat) (s : State) : (sessionClosed st n s).scanFound = s.scanFound := rfl
@[simp] theorem sessionClosed_setTimeoutsDue (st : Status) (n : Nat) (s : State) : (sessionClosed st n s).setTimeoutsDue = s.setTimeoutsDue := rfl
@[simp] theorem sessionClosed_writeCount (st : Status) (n : Nat) (s : State) : (sessionClosed st n s).writeCount = s.writeCount := rfl
@[simp] theorem sessionClosed_checksum (st : Status) (n : Nat) (s : State) : (sessionClosed st n s).checksum = s.checksum := rfl
@[simp] theorem sessionClosed_draws (st : Status) (n : Nat) (s : State) : (sessionClosed st n s).draws = n := rfl
@[simp] theorem sessionClosed_requests (st : Status) (n : Nat) (s : State) : (sessionClosed st n s).requests = s.requests := rfl
@[simp] theorem sessionClosed_transport (st : Status) (n : Nat) (s : State) : (sessionClosed st n s).transport = s.transport := rfl
@[simp] theorem sessionClosed_clock (st : Status) (n : Nat) (s : State) : (sessionClosed st n s).clock = s.clock := rfl
@[simp] theorem sessionClosed_calls (st : Status) (n : Nat) (s : State) : (sessionClosed st n s).calls = s.calls := rfl

/-! ## transmitted -/

@[simp] theorem transmitted_configured (n : Nat) (s : State) : (transmitted n s).configured = s.configured := rfl
@[simp] theorem transmitted_devIndex (n : Nat) (s : State) : (transmitted n s).devIndex = s.devIndex := rfl
@[simp] theorem transmitted_handle (n : Nat) (s : State) : (transmitted n s).handle = s.handle := rfl
@[simp] theorem transmitted_isOpen (n : Nat) (s : State) : (transmitted n s).isOpen = s.isOpen := rfl
@[simp] theorem transmitted_params (n : Nat) (s : State) : (transmitted n s).params = s.params := rfl
@[simp] theorem transmitted_op (n : Nat) (s : State) : (transmitted n s).op = s.op := rfl
@[simp] theorem transmitted_devAddr (n : Nat) (s : State) : (transmitted n s).devAddr = s.devAddr := rfl
@[simp] theorem transmitted_regAddr (n : Nat) (s : State) : (transmitted n s).regAddr = s.regAddr := rfl
@[simp] theorem transmitted_length (n : Nat) (s : State) : (transmitted n s).length = s.length := rfl
@[simp] theorem transmitted_payload (n : Nat) (s : State) : (transmitted n s).payload = s.payload := rfl
@[simp] theorem transmitted_selIndex (n : Nat) (s : State) : (transmitted n s).selIndex = s.selIndex := rfl
@[simp] theorem transmitted_selSerial (n : Nat) (s : State) : (transmitted n s).selSerial = s.selSerial := rfl
@[simp] theorem transmitted_err (n : Nat) (s : State) : (transmitted n s).err = s.err := rfl
@[simp] theorem transmitted_errInfo (n : Nat) (s : State) : (transmitted n s).errInfo = s.errInfo := rfl
@[simp] theorem transmitted_closeErr (n : Nat) (s : State) : (transmitted n s).closeErr = s.closeErr := rfl
@[simp] theorem transmitted_bytesWritten (n : Nat) (s : State) : (transmitted n s).bytesWritten = s.bytesWritten := rfl
@[simp] theorem transmitted_rdata (n : Nat) (s : State) : (transmitted n s).rdata = s.rdata := rfl
@[simp] theorem transmitted_phase (n : Nat) (s : State) : (transmitted n s).phase = .polling := rfl
@[simp] theorem transmitted_pollCnt (n : Nat) (s : State) : (transmitted n s).pollCnt = some 0 := rfl
@[simp] theorem transmitted_scanIdx (n : Nat) (s : State) : (transmitted n s).scanIdx = s.scanIdx := rfl
@[simp] theorem transmitted_txbuf (n : Nat) (s : State) : (transmitted n s).txbuf = none := rfl
@[simp] theorem transmitted_rxbuf (n : Nat) (s : State) : (transmitted n s).rxbuf = s.rxbuf := rfl
@[simp] theorem transmitted_qstatus (n : Nat) (s : State) : (transmitted n s).qstatus = none := rfl
@[simp] theorem transmitted_scanCount (n : Nat) (s : State) : (transmitted n s).scanCount = s.scanCount := rfl
@[simp] theorem transmitted_scanFound (n : Nat) (s : State) : (transmitted n s).scanFound = s.scanFound := rfl
@[simp] theorem transmitted_setTimeoutsDue (n : Nat) (s : State) : (transmitted n s).setTimeoutsDue = s.setTimeoutsDue := rfl
@[simp] theorem transmitted_writeCount (n : Nat) (s : State) : (transmitted n s).writeCount = some n := rfl
@[simp] theorem transmitted_checksum (n : Nat) (s : State) : (transmitted n s).checksum = s.checksum := rfl
@[simp] theorem transmitted_draws (n : Nat) (s : State) : (transmitted n s).draws = s.draws := rfl
@[simp] theorem transmitted_requests (n : Nat) (s : State) : (transmitted n s).requests = s.requests := rfl
@[simp] theorem transmitted_transport (n : Nat) (s : State) : (transmitted n s).transport = s.transport := rfl
@[simp] theorem transmitted_clock (n : Nat) (s : State) : (transmitted n s).clock = s.clock := rfl
@[simp] theorem transmitted_calls (n : Nat) (s : State) : (transmitted n s).calls = s.calls := rfl

/-! ## polled -/

@[simp] theorem polled_configured (polls : Nat) (q : Int) (s : State) : (polled polls q s).configured = s.configured := rfl
@[simp] theorem polled_devIndex (polls : Nat) (q : Int) (s : State) : (polled polls q s).devIndex = s.devIndex := rfl
@[simp] theorem polled_handle (polls : Nat) (q : Int) (s : State) : (polled polls q s).handle = s.handle := rfl
@[simp] theorem polled_isOpen (polls : Nat) (q : Int) (s : State) : (polled polls q s).isOpen = s.isOpen := rfl
@[simp] theorem polled_params (polls : Nat) (q : Int) (s : State) : (polled polls q s).params = s.params := rfl
@[simp] theorem polled_op (polls : Nat) (q : Int) (s : State) : (polled polls q s).op = s.op := rfl
@[simp] theorem polled_devAddr (polls : Nat) (q : Int) (s : State) : (polled polls q s).devAddr = s.devAddr := rfl
@[simp] theorem polled_regAddr (polls : Nat) (q : Int) (s : State) : (polled polls q s).regAddr = s.regAddr := rfl
@[simp] theorem polled_length (polls : Nat) (q : Int) (s : State) : (polled polls q s).length = s.length := rfl
@[simp] theorem polled_payload (polls : Nat) (q : Int) (s : State) : (polled polls q s).payload = s.payload := rfl
@[simp] theorem polled_selIndex (polls : Nat) (q : Int) (s : State) : (polled polls q s).selIndex = s.selIndex := rfl
@[simp] theorem polled_selSerial (polls : Nat) (q : Int) (s : State) : (polled polls q s).selSerial = s.selSerial := rfl
@[simp] theorem polled_err (polls : Nat) (q : Int) (s : State) : (polled polls q s).err = s.err := rfl
@[simp] theorem polled_errInfo (polls : Nat) (q : Int) (s : State) : (polled polls q s).errInfo = s.errInfo := rfl
@[simp] theorem polled_closeErr (polls : Nat) (q : Int) (s : State) : (polled polls q s).closeErr = s.closeErr := rfl
@[simp] theorem polled_bytesWritten (polls : Nat) (q : Int) (s : State) : (polled polls q s).bytesWritten = s.bytesWritten := rfl
@[simp] theorem polled_rdata (polls : Nat) (q : Int) (s : State) : (polled polls q s).rdata = s.rdata := rfl
@[simp] theorem polled_phase (polls : Nat) (q : Int) (s : State) : (polled polls q s).phase = s.phase := rfl
@[simp] theorem polled_pollCnt (polls : Nat) (q : Int) (s : State) : (polled polls q s).pollCnt = some (polls + 1) := rfl
@[simp] theorem polled_scanIdx (polls : Nat) (q : Int) (s : State) : (polled polls q s).scanIdx = s.scanIdx := rfl
@[simp] theorem polled_txbuf (polls : Nat) (q : Int) (s : State) : (polled polls q s).txbuf = s.txbuf := rfl
@[simp] theorem polled_rxbuf (polls : Nat) (q : Int) (s : State) : (polled polls q s).rxbuf = s.rxbuf := rfl
@[simp] theorem polled_qstatus (polls : Nat) (q : Int) (s : State) : (polled polls q s).qstatus = some q := rfl
@[simp] theorem polled_scanCount (polls : Nat) (q : Int) (s : State) : (polled polls q s).scanCount = s.scanCount := rfl
@[simp] theorem polled_scanFound (polls : Nat) (q : Int) (s : State) : (polled polls q s).scanFound = s.scanFound := rfl
@[simp] theorem polled_setTimeoutsDue (polls : Nat) (q : Int) (s : State) : (polled polls q s).setTimeoutsDue = s.setTimeoutsDue := rfl
@[simp] theorem polled_writeCount (polls : Nat) (q : Int) (s : State) : (polled polls q s).writeCount = s.writeCount := rfl
@[simp] theorem polled_checksum (polls : Nat) (q : Int) (s : State) : (polled polls q s).checksum = s.checksum := rfl
@[simp] theorem polled_draws (polls : Nat) (q : Int) (s : State) : (polled polls q s).draws = s.draws := rfl
@[simp] theorem polled_requests (polls : Nat) (q : Int) (s : State) : (polled polls q s).requests = s.requests := rfl
@[simp] theorem polled_transport (polls : Nat) (q : Int) (s : State) : (polled polls q s).transport = s.transport := rfl
@[simp] theorem polled_clock (polls : Nat) (q : Int) (s : State) : (polled polls q s).clock = s.clock := rfl
@[simp] theorem polled_calls (polls : Nat) (q : Int) (s : State) : (polled polls q s).calls = s.calls := rfl

/-! ## pollDecided -/

@[simp] theorem pollDecided_configured (q : Int) (s : State) : (pollDecided q s).configured = s.configured := rfl
@[simp] theorem pollDecided_devIndex (q : Int) (s : State) : (pollDecided q s).devIndex = s.devIndex := rfl
@[simp] theorem pollDecided_handle (q : Int) (s : State) : (pollDecided q s).handle = s.handle := rfl
@[simp] theorem pollDecided_isOpen (q : Int) (s : State) : (pollDecided q s).isOpen = s.isOpen := rfl
@[simp] theorem pollDecided_params (q : Int) (s : State) : (pollDecided q s).params = s.params := rfl
@[simp] theorem pollDecided_op (q : Int) (s : State) : (pollDecided q s).op = s.op := rfl
@[simp] theorem pollDecided_devAddr (q : Int) (s : State) : (pollDecided q s).devAddr = s.devAddr := rfl
@[simp] theorem pollDecided_regAddr (q : Int) (s : State) : (pollDecided q s).regAddr = s.regAddr := rfl
@[simp] theorem pollDecided_length (q : Int) (s : State) : (pollDecided q s).length = s.length := rfl
@[simp] theorem pollDecided_payload (q : Int) (s : State) : (pollDecided q s).payload = s.payload := rfl
@[simp] theorem pollDecided_selIndex (q : Int) (s : State) : (pollDecided q s).selIndex = s.selIndex := rfl
@[simp] theorem pollDecided_selSerial (q : Int) (s : State) : (pollDecided q s).selSerial = s.selSerial := rfl
@[simp] theorem pollDecided_err (q : Int) (s : State) : (pollDecided q s).err = s.err := rfl
@[simp] theorem pollDecided_errInfo (q : Int) (s : State) : (pollDecided q s).errInfo = s.errInfo := rfl
@[simp] theorem pollDecided_closeErr (q : Int) (s : State) : (pollDecided q s).closeErr = s.closeErr := rfl
@[simp] theorem pollDecided_bytesWritten (q : Int) (s : State) : (pollDecided q s).bytesWritten = s.bytesWritten := rfl
@[simp] theorem pollDecided_rdata (q : Int) (s : State) : (pollDecided q s).rdata = s.rdata := rfl
@[simp] theorem pollDecided_phase (q : Int) (s : State) : (pollDecided q s).phase = if isReady q then .receiving else .waiting := rfl
@[simp] theorem pollDecided_pollCnt (q : Int) (s : State) : (pollDecided q s).pollCnt = s.pollCnt := rfl
@[simp] theorem pollDecided_scanIdx (q : Int) (s : State) : (pollDecided q s).scanIdx = s.scanIdx := rfl
@[simp] theorem pollDecided_txbuf (q : Int) (s : State) : (pollDecided q s).txbuf = s.txbuf := rfl
@[simp] theorem pollDecided_rxbuf (q : Int) (s : State) : (pollDecided q s).rxbuf = s.rxbuf := rfl
@[simp] theorem pollDecided_qstatus (q : Int) (s : State) : (pollDecided q s).qstatus = none := rfl
@[simp] theorem pollDecided_scanCount (q : Int) (s : State) : (pollDecided q s).scanCount = s.scanCount := rfl
@[simp] theorem pollDecided_scanFound (q : Int) (s : State) : (pollDecided q s).scanFound = s.scanFound := rfl
@[simp] theorem pollDecided_setTimeoutsDue (q : Int) (s : State) : (pollDecided q s).setTimeoutsDue = s.setTimeoutsDue := rfl
@[simp] theorem pollDecided_writeCount (q : Int) (s : State) : (pollDecided q s).writeCount = s.writeCount := rfl
@[simp] theorem pollDecided_checksum (q : Int) (s : State) : (pollDecided q s).checksum = s.checksum := rfl
@[simp] theorem pollDecided_draws (q : Int) (s : State) : (pollDecided q s).draws = s.draws := rfl
@[simp] theorem pollDecided_requests (q : Int) (s : State) : (pollDecided q s).requests = s.requests := rfl
@[simp] theorem pollDecided_transport (q : Int) (s : State) : (pollDecided q s).transport = s.transport := rfl
@[simp] theorem pollDecided_clock (q : Int) (s : State) : (pollDecided q s).clock = s.clock := rfl
@[simp] theorem pollDecided_calls (q : Int) (s : State) : (pollDecided q s).calls = s.calls := rfl

/-! ## responseTaken -/

@[simp] theorem responseTaken_configured (s : State) : (responseTaken s).configured = s.configured := rfl
@[simp] theorem responseTaken_devIndex (s : State) : (responseTaken s).devIndex = s.devIndex := rfl
@[simp] theorem responseTaken_handle (s : State) : (responseTaken s).handle = s.handle := rfl
@[simp] theorem responseTaken_isOpen (s : State) : (responseTaken s).isOpen = s.isOpen := rfl
@[simp] theorem responseTaken_params (s : State) : (responseTaken s).params = s.params := rfl
@[simp] theorem responseTaken_op (s : State) : (responseTaken s).op = s.op := rfl
@[simp] theorem responseTaken_devAddr (s : State) : (responseTaken s).devAddr = s.devAddr := rfl
@[simp] theorem responseTaken_regAddr (s : State) : (responseTaken s).regAddr = s.regAddr := rfl
@[simp] theorem responseTaken_length (s : State) : (responseTaken s).length = s.length := rfl
@[simp] theorem responseTaken_payload (s : State) : (responseTaken s).payload = s.payload := rfl
@[simp] theorem responseTaken_selIndex (s : State) : (responseTaken s).selIndex = s.selIndex := rfl
@[simp] theorem responseTaken_selSerial (s : State) : (responseTaken s).selSerial = s.selSerial := rfl
@[simp] theorem responseTaken_err (s : State) : (responseTaken s).err = s.err := rfl
@[simp] theorem responseTaken_errInfo (s : State) : (responseTaken s).errInfo = s.errInfo := rfl
@[simp] theorem responseTaken_closeErr (s : State) : (responseTaken s).closeErr = s.closeErr := rfl
@[simp] theorem responseTaken_bytesWritten (s : State) : (responseTaken s).bytesWritten = s.bytesWritten := rfl
@[simp] theorem responseTaken_rdata (s : State) : (responseTaken s).rdata = s.rdata := rfl
@[simp] theorem responseTaken_phase (s : State) : (responseTaken s).phase = .reopening := rfl
@[simp] theorem responseTaken_pollCnt (s : State) : (responseTaken s).pollCnt = s.pollCnt := rfl
@[simp] theorem responseTaken_scanIdx (s : State) : (responseTaken s).scanIdx = s.scanIdx := rfl
@[simp] theorem responseTaken_txbuf (s : State) : (responseTaken s).txbuf = s.txbuf := rfl
@[simp] theorem responseTaken_rxbuf (s : State) : (responseTaken s).rxbuf = none := rfl
@[simp] theorem responseTaken_qstatus (s : State) : (responseTaken s).qstatus = s.qstatus := rfl
@[simp] theorem responseTaken_scanCount (s : State) : (responseTaken s).scanCount = s.scanCount := rfl
@[simp] theorem responseTaken_scanFound (s : State) : (responseTaken s).scanFound = s.scanFound := rfl
@[simp] theorem responseTaken_setTimeoutsDue (s : State) : (responseTaken s).setTimeoutsDue = s.setTimeoutsDue := rfl
@[simp] theorem responseTaken_writeCount (s : State) : (responseTaken s).writeCount = s.writeCount := rfl
@[simp] theorem responseTaken_checksum (s : State) : (responseTaken s).checksum = s.checksum := rfl
@[simp] theorem responseTaken_draws (s : State) : (responseTaken s).draws = s.draws := rfl
@[simp] theorem responseTaken_requests (s : State) : (responseTaken s).requests = s.requests := rfl
@[simp] theorem responseTaken_transport (s : State) : (responseTaken s).transport = s.transport := rfl
@[simp] theorem responseTaken_clock (s : State) : (responseTaken s).clock = s.clock := rfl
@[simp] theorem responseTaken_calls (s : State) : (responseTaken s).calls = s.calls := rfl

/-! ## computeSum8 -/

@[simp] theorem computeSum8_configured (b : List Byte) (s : State) : (computeSum8 b s).configured = s.configured := rfl
@[simp] theorem computeSum8_devIndex (b : List Byte) (s : State) : (computeSum8 b s).devIndex = s.devIndex := rfl
@[simp] theorem computeSum8_handle (b : List Byte) (s : State) : (computeSum8 b s).handle = s.handle := rfl
@[simp] theorem computeSum8_isOpen (b : List Byte) (s : State) : (computeSum8 b s).isOpen = s.isOpen := rfl
@[simp] theorem computeSum8_params (b : List Byte) (s : State) : (computeSum8 b s).params = s.params := rfl
@[simp] theorem computeSum8_op (b : List Byte) (s : State) : (computeSum8 b s).op = s.op := rfl
@[simp] theorem computeSum8_devAddr (b : List Byte) (s : State) : (computeSum8 b s).devAddr = s.devAddr := rfl
@[simp] theorem computeSum8_regAddr (b : List Byte) (s : State) : (computeSum8 b s).regAddr = s.regAddr := rfl
@[simp] theorem computeSum8_length (b : List Byte) (s : State) : (computeSum8 b s).length = s.length := rfl
@[simp] theorem computeSum8_payload (b : List Byte) (s : State) : (computeSum8 b s).payload = s.payload := rfl
@[simp] theorem computeSum8_selIndex (b : List Byte) (s : State) : (computeSum8 b s).selIndex = s.selIndex := rfl
@[simp] theorem computeSum8_selSerial (b : List Byte) (s : State) : (computeSum8 b s).selSerial = s.selSerial := rfl
@[simp] theorem computeSum8_err (b : List Byte) (s : State) : (computeSum8 b s).err = s.err := rfl
@[simp] theorem computeSum8_errInfo (b : List Byte) (s : State) : (computeSum8 b s).errInfo = s.errInfo := rfl
@[simp] theorem computeSum8_closeErr (b : List Byte) (s : State) : (computeSum8 b s).closeErr = s.closeErr := rfl
@[simp] theorem computeSum8_bytesWritten (b : List Byte) (s : State) : (computeSum8 b s).bytesWritten = s.bytesWritten := rfl
@[simp] theorem computeSum8_rdata (b : List Byte) (s : State) : (computeSum8 b s).rdata = s.rdata := rfl
@[simp] theorem computeSum8_phase (b : List Byte) (s : State) : (computeSum8 b s).phase = s.phase := rfl
@[simp] theorem computeSum8_pollCnt (b : List Byte) (s : State) : (computeSum8 b s).pollCnt = s.pollCnt := rfl
@[simp] theorem computeSum8_scanIdx (b : List Byte) (s : State) : (computeSum8 b s).scanIdx = s.scanIdx := rfl
@[simp] theorem computeSum8_txbuf (b : List Byte) (s : State) : (computeSum8 b s).txbuf = s.txbuf := rfl
@[simp] theorem computeSum8_rxbuf (b : List Byte) (s : State) : (computeSum8 b s).rxbuf = s.rxbuf := rfl
@[simp] theorem computeSum8_qstatus (b : List Byte) (s : State) : (computeSum8 b s).qstatus = s.qstatus := rfl
@[simp] theorem computeSum8_scanCount (b : List Byte) (s : State) : (computeSum8 b s).scanCount = s.scanCount := rfl
@[simp] theorem computeSum8_scanFound (b : List Byte) (s : State) : (computeSum8 b s).scanFound = s.scanFound := rfl
@[simp] theorem computeSum8_setTimeoutsDue (b : List Byte) (s : State) : (computeSum8 b s).setTimeoutsDue = s.setTimeoutsDue := rfl
@[simp] theorem computeSum8_writeCount (b : List Byte) (s : State) : (computeSum8 b s).writeCount = s.writeCount := rfl
@[simp] theorem computeSum8_checksum (b : List Byte) (s : State) : (computeSum8 b s).checksum = some (sum8 b) := rfl
@[simp] theorem computeSum8_draws (b : List Byte) (s : State) : (computeSum8 b s).draws = s.draws := rfl
@[simp] theorem computeSum8_requests (b : List Byte) (s : State) : (computeSum8 b s).requests = s.requests := rfl
@[simp] theorem computeSum8_transport (b : List Byte) (s : State) : (computeSum8 b s).transport = s.transport := rfl
@[simp] theorem computeSum8_clock (b : List Byte) (s : State) : (computeSum8 b s).clock = s.clock := rfl
@[simp] theorem computeSum8_calls (b : List Byte) (s : State) : (computeSum8 b s).calls = s.calls := rfl

/-! ## loadRequest -/

@[simp] theorem loadRequest_configured (b : List Byte) (s : State) : (loadRequest b s).configured = s.configured := rfl
@[simp] theorem loadRequest_devIndex (b : List Byte) (s : State) : (loadRequest b s).devIndex = s.devIndex := rfl
@[simp] theorem loadRequest_handle (b : List Byte) (s : State) : (loadRequest b s).handle = s.handle := rfl
@[simp] theorem loadRequest_isOpen (b : List Byte) (s : State) : (loadRequest b s).isOpen = s.isOpen := rfl
@[simp] theorem loadRequest_params (b : List Byte) (s : State) : (loadRequest b s).params = s.params := rfl
@[simp] theorem loadRequest_op (b : List Byte) (s : State) : (loadRequest b s).op = s.op := rfl
@[simp] theorem loadRequest_devAddr (b : List Byte) (s : State) : (loadRequest b s).devAddr = s.devAddr := rfl
@[simp] theorem loadRequest_regAddr (b : List Byte) (s : State) : (loadRequest b s).regAddr = s.regAddr := rfl
@[simp] theorem loadRequest_length (b : List Byte) (s : State) : (loadRequest b s).length = s.length := rfl
@[simp] theorem loadRequest_payload (b : List Byte) (s : State) : (loadRequest b s).payload = s.payload := rfl
@[simp] theorem loadRequest_selIndex (b : List Byte) (s : State) : (loadRequest b s).selIndex = s.selIndex := rfl
@[simp] theorem loadRequest_selSerial (b : List Byte) (s : State) : (loadRequest b s).selSerial = s.selSerial := rfl
@[simp] theorem loadRequest_err (b : List Byte) (s : State) : (loadRequest b s).err = s.err := rfl
@[simp] theorem loadRequest_errInfo (b : List Byte) (s : State) : (loadRequest b s).errInfo = s.errInfo := rfl
@[simp] theorem loadRequest_closeErr (b : List Byte) (s : State) : (loadRequest b s).closeErr = s.closeErr := rfl
@[simp] theorem loadRequest_bytesWritten (b : List Byte) (s : State) : (loadRequest b s).bytesWritten = s.bytesWritten := rfl
@[simp] theorem loadRequest_rdata (b : List Byte) (s : State) : (loadRequest b s).rdata = s.rdata := rfl
@[simp] theorem loadRequest_phase (b : List Byte) (s : State) : (loadRequest b s).phase = .flushing := rfl
@[simp] theorem loadRequest_pollCnt (b : List Byte) (s : State) : (loadRequest b s).pollCnt = s.pollCnt := rfl
@[simp] theorem loadRequest_scanIdx (b : List Byte) (s : State) : (loadRequest b s).scanIdx = s.scanIdx := rfl
@[simp] theorem loadRequest_txbuf (b : List Byte) (s : State) : (loadRequest b s).txbuf = some (withChecksum b) := rfl
@[simp] theorem loadRequest_rxbuf (b : List Byte) (s : State) : (loadRequest b s).rxbuf = s.rxbuf := rfl
@[simp] theorem loadRequest_qstatus (b : List Byte) (s : State) : (loadRequest b s).qstatus = s.qstatus := rfl
@[simp] theorem loadRequest_scanCount (b : List Byte) (s : State) : (loadRequest b s).scanCount = s.scanCount := rfl
@[simp] theorem loadRequest_scanFound (b : List Byte) (s : State) : (loadRequest b s).scanFound = s.scanFound := rfl
@[simp] theorem loadRequest_setTimeoutsDue (b : List Byte) (s : State) : (loadRequest b s).setTimeoutsDue = s.setTimeoutsDue := rfl
@[simp] theorem loadRequest_writeCount (b : List Byte) (s : State) : (loadRequest b s).writeCount = s.writeCount := rfl
@[simp] theorem loadRequest_checksum (b : List Byte) (s : State) : (loadRequest b s).checksum = some (sum8 b) := rfl
@[simp] theorem loadRequest_draws (b : List Byte) (s : State) : (loadRequest b s).draws = s.draws := rfl
@[simp] theorem loadRequest_requests (b : List Byte) (s : State) : (loadRequest b s).requests = s.requests := rfl
@[simp] theorem loadRequest_transport (b : List Byte) (s : State) : (loadRequest b s).transport = s.transport := rfl
@[simp] theorem loadRequest_clock (b : List Byte) (s : State) : (loadRequest b s).clock = s.clock := rfl
@[simp] theorem loadRequest_calls (b : List Byte) (s : State) : (loadRequest b s).calls = s.calls := rfl

/-! ## recordError

What it leaves alone, whether or not an error is recorded already. -/

@[simp] theorem recordError_configured (e : ErrorCode) (info : Option ErrorInfo) (s : State) :
    (recordError e info s).configured = s.configured := by unfold recordError; split <;> rfl
@[simp] theorem recordError_devIndex (e : ErrorCode) (info : Option ErrorInfo) (s : State) :
    (recordError e info s).devIndex = s.devIndex := by unfold recordError; split <;> rfl
@[simp] theorem recordError_handle (e : ErrorCode) (info : Option ErrorInfo) (s : State) :
    (recordError e info s).handle = s.handle := by unfold recordError; split <;> rfl
@[simp] theorem recordError_isOpen (e : ErrorCode) (info : Option ErrorInfo) (s : State) :
    (recordError e info s).isOpen = s.isOpen := by unfold recordError; split <;> rfl
@[simp] theorem recordError_params (e : ErrorCode) (info : Option ErrorInfo) (s : State) :
    (recordError e info s).params = s.params := by unfold recordError; split <;> rfl
@[simp] theorem recordError_op (e : ErrorCode) (info : Option ErrorInfo) (s : State) :
    (recordError e info s).op = s.op := by unfold recordError; split <;> rfl
@[simp] theorem recordError_devAddr (e : ErrorCode) (info : Option ErrorInfo) (s : State) :
    (recordError e info s).devAddr = s.devAddr := by unfold recordError; split <;> rfl
@[simp] theorem recordError_regAddr (e : ErrorCode) (info : Option ErrorInfo) (s : State) :
    (recordError e info s).regAddr = s.regAddr := by unfold recordError; split <;> rfl
@[simp] theorem recordError_length (e : ErrorCode) (info : Option ErrorInfo) (s : State) :
    (recordError e info s).length = s.length := by unfold recordError; split <;> rfl
@[simp] theorem recordError_payload (e : ErrorCode) (info : Option ErrorInfo) (s : State) :
    (recordError e info s).payload = s.payload := by unfold recordError; split <;> rfl
@[simp] theorem recordError_selIndex (e : ErrorCode) (info : Option ErrorInfo) (s : State) :
    (recordError e info s).selIndex = s.selIndex := by unfold recordError; split <;> rfl
@[simp] theorem recordError_selSerial (e : ErrorCode) (info : Option ErrorInfo) (s : State) :
    (recordError e info s).selSerial = s.selSerial := by unfold recordError; split <;> rfl
@[simp] theorem recordError_closeErr (e : ErrorCode) (info : Option ErrorInfo) (s : State) :
    (recordError e info s).closeErr = s.closeErr := by unfold recordError; split <;> rfl
@[simp] theorem recordError_phase (e : ErrorCode) (info : Option ErrorInfo) (s : State) :
    (recordError e info s).phase = s.phase := by unfold recordError; split <;> rfl
@[simp] theorem recordError_pollCnt (e : ErrorCode) (info : Option ErrorInfo) (s : State) :
    (recordError e info s).pollCnt = s.pollCnt := by unfold recordError; split <;> rfl
@[simp] theorem recordError_scanIdx (e : ErrorCode) (info : Option ErrorInfo) (s : State) :
    (recordError e info s).scanIdx = s.scanIdx := by unfold recordError; split <;> rfl
@[simp] theorem recordError_txbuf (e : ErrorCode) (info : Option ErrorInfo) (s : State) :
    (recordError e info s).txbuf = s.txbuf := by unfold recordError; split <;> rfl
@[simp] theorem recordError_rxbuf (e : ErrorCode) (info : Option ErrorInfo) (s : State) :
    (recordError e info s).rxbuf = s.rxbuf := by unfold recordError; split <;> rfl
@[simp] theorem recordError_qstatus (e : ErrorCode) (info : Option ErrorInfo) (s : State) :
    (recordError e info s).qstatus = s.qstatus := by unfold recordError; split <;> rfl
@[simp] theorem recordError_scanCount (e : ErrorCode) (info : Option ErrorInfo) (s : State) :
    (recordError e info s).scanCount = s.scanCount := by unfold recordError; split <;> rfl
@[simp] theorem recordError_scanFound (e : ErrorCode) (info : Option ErrorInfo) (s : State) :
    (recordError e info s).scanFound = s.scanFound := by unfold recordError; split <;> rfl
@[simp] theorem recordError_setTimeoutsDue (e : ErrorCode) (info : Option ErrorInfo) (s : State) :
    (recordError e info s).setTimeoutsDue = s.setTimeoutsDue := by unfold recordError; split <;> rfl
@[simp] theorem recordError_writeCount (e : ErrorCode) (info : Option ErrorInfo) (s : State) :
    (recordError e info s).writeCount = s.writeCount := by unfold recordError; split <;> rfl
@[simp] theorem recordError_checksum (e : ErrorCode) (info : Option ErrorInfo) (s : State) :
    (recordError e info s).checksum = s.checksum := by unfold recordError; split <;> rfl
@[simp] theorem recordError_draws (e : ErrorCode) (info : Option ErrorInfo) (s : State) :
    (recordError e info s).draws = s.draws := by unfold recordError; split <;> rfl
@[simp] theorem recordError_requests (e : ErrorCode) (info : Option ErrorInfo) (s : State) :
    (recordError e info s).requests = s.requests := by unfold recordError; split <;> rfl
@[simp] theorem recordError_transport (e : ErrorCode) (info : Option ErrorInfo) (s : State) :
    (recordError e info s).transport = s.transport := by unfold recordError; split <;> rfl
@[simp] theorem recordError_clock (e : ErrorCode) (info : Option ErrorInfo) (s : State) :
    (recordError e info s).clock = s.clock := by unfold recordError; split <;> rfl
@[simp] theorem recordError_calls (e : ErrorCode) (info : Option ErrorInfo) (s : State) :
    (recordError e info s).calls = s.calls := by unfold recordError; split <;> rfl

/-- The first error is recorded, and with it no result is left (R214.2). -/
theorem recordError_first (e : ErrorCode) (info : Option ErrorInfo) (s : State) (h : s.err = .none) :
    recordError e info s = { s with err := e, errInfo := info, bytesWritten := none, rdata := none } := by
  simp [recordError, h]

/-- A later error changes nothing (R214.2, D12). -/
theorem recordError_later (e : ErrorCode) (info : Option ErrorInfo) (s : State) (h : s.err ≠ .none) :
    recordError e info s = s := by
  simp [recordError, h]

/-! ## raise

What taking an error leaves alone, wherever it leads. -/

@[simp] theorem raise_configured (e : ErrorCode) (info : Option ErrorInfo) (s : State) :
    (raise e info s).configured = s.configured := by unfold raise; split <;> simp
@[simp] theorem raise_devIndex (e : ErrorCode) (info : Option ErrorInfo) (s : State) :
    (raise e info s).devIndex = s.devIndex := by unfold raise; split <;> simp
@[simp] theorem raise_handle (e : ErrorCode) (info : Option ErrorInfo) (s : State) :
    (raise e info s).handle = s.handle := by unfold raise; split <;> simp
@[simp] theorem raise_isOpen (e : ErrorCode) (info : Option ErrorInfo) (s : State) :
    (raise e info s).isOpen = s.isOpen := by unfold raise; split <;> simp
@[simp] theorem raise_params (e : ErrorCode) (info : Option ErrorInfo) (s : State) :
    (raise e info s).params = s.params := by unfold raise; split <;> simp
@[simp] theorem raise_op (e : ErrorCode) (info : Option ErrorInfo) (s : State) :
    (raise e info s).op = s.op := by unfold raise; split <;> simp
@[simp] theorem raise_devAddr (e : ErrorCode) (info : Option ErrorInfo) (s : State) :
    (raise e info s).devAddr = s.devAddr := by unfold raise; split <;> simp
@[simp] theorem raise_regAddr (e : ErrorCode) (info : Option ErrorInfo) (s : State) :
    (raise e info s).regAddr = s.regAddr := by unfold raise; split <;> simp
@[simp] theorem raise_length (e : ErrorCode) (info : Option ErrorInfo) (s : State) :
    (raise e info s).length = s.length := by unfold raise; split <;> simp
@[simp] theorem raise_payload (e : ErrorCode) (info : Option ErrorInfo) (s : State) :
    (raise e info s).payload = s.payload := by unfold raise; split <;> simp
@[simp] theorem raise_selIndex (e : ErrorCode) (info : Option ErrorInfo) (s : State) :
    (raise e info s).selIndex = s.selIndex := by unfold raise; split <;> simp
@[simp] theorem raise_selSerial (e : ErrorCode) (info : Option ErrorInfo) (s : State) :
    (raise e info s).selSerial = s.selSerial := by unfold raise; split <;> simp
@[simp] theorem raise_closeErr (e : ErrorCode) (info : Option ErrorInfo) (s : State) :
    (raise e info s).closeErr = s.closeErr := by unfold raise; split <;> simp
@[simp] theorem raise_draws (e : ErrorCode) (info : Option ErrorInfo) (s : State) :
    (raise e info s).draws = s.draws := by unfold raise; split <;> simp
@[simp] theorem raise_requests (e : ErrorCode) (info : Option ErrorInfo) (s : State) :
    (raise e info s).requests = s.requests := by unfold raise; split <;> simp
@[simp] theorem raise_transport (e : ErrorCode) (info : Option ErrorInfo) (s : State) :
    (raise e info s).transport = s.transport := by unfold raise; split <;> simp
@[simp] theorem raise_clock (e : ErrorCode) (info : Option ErrorInfo) (s : State) :
    (raise e info s).clock = s.clock := by unfold raise; split <;> simp
@[simp] theorem raise_calls (e : ErrorCode) (info : Option ErrorInfo) (s : State) :
    (raise e info s).calls = s.calls := by unfold raise; split <;> simp
@[simp] theorem raise_err (e : ErrorCode) (info : Option ErrorInfo) (s : State) :
    (raise e info s).err = (recordError e info s).err := by unfold raise; split <;> simp
@[simp] theorem raise_errInfo (e : ErrorCode) (info : Option ErrorInfo) (s : State) :
    (raise e info s).errInfo = (recordError e info s).errInfo := by unfold raise; split <;> simp
@[simp] theorem raise_bytesWritten (e : ErrorCode) (info : Option ErrorInfo) (s : State) :
    (raise e info s).bytesWritten = (recordError e info s).bytesWritten := by unfold raise; split <;> simp
@[simp] theorem raise_rdata (e : ErrorCode) (info : Option ErrorInfo) (s : State) :
    (raise e info s).rdata = (recordError e info s).rdata := by unfold raise; split <;> simp
@[simp] theorem raise_txbuf (e : ErrorCode) (info : Option ErrorInfo) (s : State) :
    (raise e info s).txbuf = none := by unfold raise; split <;> simp
@[simp] theorem raise_rxbuf (e : ErrorCode) (info : Option ErrorInfo) (s : State) :
    (raise e info s).rxbuf = none := by unfold raise; split <;> simp
@[simp] theorem raise_qstatus (e : ErrorCode) (info : Option ErrorInfo) (s : State) :
    (raise e info s).qstatus = none := by unfold raise; split <;> simp
@[simp] theorem raise_setTimeoutsDue (e : ErrorCode) (info : Option ErrorInfo) (s : State) :
    (raise e info s).setTimeoutsDue = false := by unfold raise; split <;> simp

/-- Where taking an error leads (R214.3, R214.4). -/
theorem raise_phase (e : ErrorCode) (info : Option ErrorInfo) (s : State) :
    (raise e info s).phase = if closeDue s then .reopening else .idle := by
  unfold raise; split <;> simp_all

/-- The close sequence is due: it is entered with the error recorded (R214.3). -/
theorem raise_due (e : ErrorCode) (info : Option ErrorInfo) (s : State) (h : closeDue s = true) :
    raise e info s = enterClose (recordError e info s) := by
  simp [raise, h]

/-- The close sequence is not due: the block is idle with the error recorded (R214.4). -/
theorem raise_notDue (e : ErrorCode) (info : Option ErrorInfo) (s : State) (h : closeDue s = false) :
    raise e info s = goIdle (recordError e info s) := by
  simp [raise, h]

end Sys2Proof.Machine
end

