-- ==== Sys2Proof/Laws/Ops.lean ====
section
/-! SUPPORT. One spec lemma per shared operation: what a transport call answers, and what a call of each phase can
do. -/

namespace Sys2Proof.Machine

/-! ## andThen -/

@[simp] theorem andThen_next (s : State) (f : State → Result) : andThen (.next s) f = f s := rfl
@[simp] theorem andThen_refused (r : Refusal) (f : State → Result) : andThen (.refused r) f = .refused r := rfl
@[simp] theorem andThen_fault (r : Fault) (f : State → Result) : andThen (.fault r) f = .fault r := rfl

theorem andThen_eq_next {r : Result} {f : State → Result} {t : State} (h : andThen r f = .next t) :
    ∃ s, r = .next s ∧ f s = .next t := by
  cases r with
  | next s => exact ⟨s, rfl, h⟩
  | fault e => cases h
  | refused e => cases h

/-! ## Registers that may hold no value -/

@[simp] theorem held_some {α : Type} (r : RegName) (a : α) : held r (some a) = .ok a := rfl
@[simp] theorem held_none {α : Type} (r : RegName) : held r (none : Option α) = .error (.noValue r) := rfl
@[simp] theorem reading_some {α : Type} (r : RegName) (a : α) (f : α → Result) : reading r (some a) f = f a := rfl
@[simp] theorem reading_none {α : Type} (r : RegName) (f : α → Result) :
    reading r none f = .refused (.noValue r) := rfl

theorem held_ok {α : Type} {r : RegName} {v : Option α} {a : α} : held r v = .ok a ↔ v = some a := by
  cases v <;> simp

@[simp] theorem ok_bind {α β : Type} (a : α) (f : α → Except Refusal β) : (Except.ok a >>= f) = f a := rfl
@[simp] theorem error_bind {α β : Type} (e : Refusal) (f : α → Except Refusal β) :
    (Except.error e >>= f) = .error e := rfl

@[simp] theorem map_ok {α β : Type} (a : α) (f : α → β) : (Except.ok a : Except Refusal α).map f = .ok (f a) := rfl
@[simp] theorem map_error {α β : Type} (e : Refusal) (f : α → β) :
    (Except.error e : Except Refusal α).map f = .error e := rfl

theorem held_bind_ok {α β : Type} {r : RegName} {v : Option α} {f : α → Except Refusal β} {b : β}
    (h : (held r v >>= f) = .ok b) : ∃ a, v = some a ∧ f a = .ok b := by
  cases v with
  | none => cases h
  | some a => exact ⟨a, rfl, h⟩

theorem reading_eq_next {α : Type} {r : RegName} {v : Option α} {f : α → Result} {t : State}
    (h : reading r v f = .next t) : ∃ a, v = some a ∧ f a = .next t := by
  cases v with
  | none => cases h
  | some a => exact ⟨a, rfl, h⟩

/-! ## The session -/

theorem withSession_open {s : State} {h : Handle} (hh : s.handle = some h) (ho : s.isOpen = true)
    (f : Handle → Result) : withSession s f = f h := by
  simp [withSession, hh, ho]

theorem withSession_eq_next {s t : State} {f : Handle → Result} (h : withSession s f = .next t) :
    ∃ hd, s.handle = some hd ∧ s.isOpen = true ∧ f hd = .next t := by
  obtain ⟨hd, hh, h⟩ := reading_eq_next h
  split at hh
  · rename_i ho; exact ⟨hd, hh, ho, h⟩
  · cases hh

/-! ## The calls: not returned, returned, and what a returned one is -/

theorem callEnumerateCount_none {s : State} (hq : s.transport.counts = []) : callEnumerateCount s = none := by
  simp [callEnumerateCount, hq]

theorem callEnumerateCount_some {s : State} {a : Status × Nat} {rest : List (Status × Nat)}
    (hq : s.transport.counts = a :: rest) :
    callEnumerateCount s =
      some (a, record (.enumerateCount a.1 a.2) { s with transport := { s.transport with counts := rest } }) := by
  simp [callEnumerateCount, hq]

theorem callEnumerateCount_cases (s : State) :
    (s.transport.counts = [] ∧ callEnumerateCount s = none) ∨
    ∃ a rest, s.transport.counts = a :: rest ∧ callEnumerateCount s =
      some (a, record (.enumerateCount a.1 a.2) { s with transport := { s.transport with counts := rest } }) := by
  cases hq : s.transport.counts with
  | nil => exact .inl ⟨rfl, callEnumerateCount_none hq⟩
  | cons a rest => exact .inr ⟨a, rest, rfl, callEnumerateCount_some hq⟩

theorem callEnumerateDescriptor_none (index : Nat) {s : State} (hq : s.transport.descriptors = []) : callEnumerateDescriptor index s = none := by
  simp [callEnumerateDescriptor, hq]

theorem callEnumerateDescriptor_some (index : Nat) {s : State} {a : Status × Str} {rest : List (Status × Str)}
    (hq : s.transport.descriptors = a :: rest) :
    callEnumerateDescriptor index s =
      some (a, record (.enumerateDescriptor index .serial a.1 a.2) { s with transport := { s.transport with descriptors := rest } }) := by
  simp [callEnumerateDescriptor, hq]

theorem callEnumerateDescriptor_cases (index : Nat) (s : State) :
    (s.transport.descriptors = [] ∧ callEnumerateDescriptor index s = none) ∨
    ∃ a rest, s.transport.descriptors = a :: rest ∧ callEnumerateDescriptor index s =
      some (a, record (.enumerateDescriptor index .serial a.1 a.2) { s with transport := { s.transport with descriptors := rest } }) := by
  cases hq : s.transport.descriptors with
  | nil => exact .inl ⟨rfl, callEnumerateDescriptor_none index hq⟩
  | cons a rest => exact .inr ⟨a, rest, rfl, callEnumerateDescriptor_some index hq⟩

theorem callOpen_none (index : Nat) {s : State} (hq : s.transport.opens = []) : callOpen index s = none := by
  simp [callOpen, hq]

theorem callOpen_some (index : Nat) {s : State} {a : Status × Handle} {rest : List (Status × Handle)}
    (hq : s.transport.opens = a :: rest) :
    callOpen index s =
      some (a, record (.openDevice index a.1 a.2) { s with transport := { s.transport with opens := rest } }) := by
  simp [callOpen, hq]

theorem callOpen_cases (index : Nat) (s : State) :
    (s.transport.opens = [] ∧ callOpen index s = none) ∨
    ∃ a rest, s.transport.opens = a :: rest ∧ callOpen index s =
      some (a, record (.openDevice index a.1 a.2) { s with transport := { s.transport with opens := rest } }) := by
  cases hq : s.transport.opens with
  | nil => exact .inl ⟨rfl, callOpen_none index hq⟩
  | cons a rest => exact .inr ⟨a, rest, rfl, callOpen_some index hq⟩

theorem callClose_none (h : Handle) {s : State} (hq : s.transport.closes = []) : callClose h s = none := by
  simp [callClose, hq]

theorem callClose_some (h : Handle) {s : State} {a : Status} {rest : List (Status)}
    (hq : s.transport.closes = a :: rest) :
    callClose h s =
      some (a, record (.close h a) { s with transport := { s.transport with closes := rest } }) := by
  simp [callClose, hq]

theorem callClose_cases (h : Handle) (s : State) :
    (s.transport.closes = [] ∧ callClose h s = none) ∨
    ∃ a rest, s.transport.closes = a :: rest ∧ callClose h s =
      some (a, record (.close h a) { s with transport := { s.transport with closes := rest } }) := by
  cases hq : s.transport.closes with
  | nil => exact .inl ⟨rfl, callClose_none h hq⟩
  | cons a rest => exact .inr ⟨a, rest, rfl, callClose_some h hq⟩

theorem callSetTimeouts_none (h : Handle) {s : State} (hq : s.transport.timeouts = []) : callSetTimeouts h s = none := by
  simp [callSetTimeouts, hq]

theorem callSetTimeouts_some (h : Handle) {s : State} {a : Status} {rest : List (Status)}
    (hq : s.transport.timeouts = a :: rest) :
    callSetTimeouts h s =
      some (a, record (.setTimeouts h s.readTimeoutMs s.writeTimeoutMs a) { s with transport := { s.transport with timeouts := rest } }) := by
  simp [callSetTimeouts, hq]

theorem callSetTimeouts_cases (h : Handle) (s : State) :
    (s.transport.timeouts = [] ∧ callSetTimeouts h s = none) ∨
    ∃ a rest, s.transport.timeouts = a :: rest ∧ callSetTimeouts h s =
      some (a, record (.setTimeouts h s.readTimeoutMs s.writeTimeoutMs a) { s with transport := { s.transport with timeouts := rest } }) := by
  cases hq : s.transport.timeouts with
  | nil => exact .inl ⟨rfl, callSetTimeouts_none h hq⟩
  | cons a rest => exact .inr ⟨a, rest, rfl, callSetTimeouts_some h hq⟩

theorem callFlushBuffers_none (h : Handle) {s : State} (hq : s.transport.flushes = []) : callFlushBuffers h s = none := by
  simp [callFlushBuffers, hq]

theorem callFlushBuffers_some (h : Handle) {s : State} {a : Status} {rest : List (Status)}
    (hq : s.transport.flushes = a :: rest) :
    callFlushBuffers h s =
      some (a, record (.flushBuffers h a) { s with transport := { s.transport with flushes := rest } }) := by
  simp [callFlushBuffers, hq]

theorem callFlushBuffers_cases (h : Handle) (s : State) :
    (s.transport.flushes = [] ∧ callFlushBuffers h s = none) ∨
    ∃ a rest, s.transport.flushes = a :: rest ∧ callFlushBuffers h s =
      some (a, record (.flushBuffers h a) { s with transport := { s.transport with flushes := rest } }) := by
  cases hq : s.transport.flushes with
  | nil => exact .inl ⟨rfl, callFlushBuffers_none h hq⟩
  | cons a rest => exact .inr ⟨a, rest, rfl, callFlushBuffers_some h hq⟩

theorem callWrite_none (h : Handle) (bytes : List Byte) {s : State} (hq : s.transport.writes = []) : callWrite h bytes s = none := by
  simp [callWrite, hq]

theorem callWrite_some (h : Handle) (bytes : List Byte) {s : State} {a : Status × Nat} {rest : List (Status × Nat)}
    (hq : s.transport.writes = a :: rest) :
    callWrite h bytes s =
      some (a, record (.write h bytes a.1 a.2) { s with transport := { s.transport with writes := rest } }) := by
  simp [callWrite, hq]

theorem callWrite_cases (h : Handle) (bytes : List Byte) (s : State) :
    (s.transport.writes = [] ∧ callWrite h bytes s = none) ∨
    ∃ a rest, s.transport.writes = a :: rest ∧ callWrite h bytes s =
      some (a, record (.write h bytes a.1 a.2) { s with transport := { s.transport with writes := rest } }) := by
  cases hq : s.transport.writes with
  | nil => exact .inl ⟨rfl, callWrite_none h bytes hq⟩
  | cons a rest => exact .inr ⟨a, rest, rfl, callWrite_some h bytes hq⟩

theorem callCheckQueueStatus_none (h : Handle) {s : State} (hq : s.transport.queueStatus = []) : callCheckQueueStatus h s = none := by
  simp [callCheckQueueStatus, hq]

theorem callCheckQueueStatus_some (h : Handle) {s : State} {a : Status × Nat × Int} {rest : List (Status × Nat × Int)}
    (hq : s.transport.queueStatus = a :: rest) :
    callCheckQueueStatus h s =
      some (a, record (.checkQueueStatus h a.1 a.2.1 a.2.2) { s with transport := { s.transport with queueStatus := rest } }) := by
  simp [callCheckQueueStatus, hq]

theorem callCheckQueueStatus_cases (h : Handle) (s : State) :
    (s.transport.queueStatus = [] ∧ callCheckQueueStatus h s = none) ∨
    ∃ a rest, s.transport.queueStatus = a :: rest ∧ callCheckQueueStatus h s =
      some (a, record (.checkQueueStatus h a.1 a.2.1 a.2.2) { s with transport := { s.transport with queueStatus := rest } }) := by
  cases hq : s.transport.queueStatus with
  | nil => exact .inl ⟨rfl, callCheckQueueStatus_none h hq⟩
  | cons a rest => exact .inr ⟨a, rest, rfl, callCheckQueueStatus_some h hq⟩

theorem callRead_none (h : Handle) (count : Nat) {s : State} (hq : s.transport.reads = []) : callRead h count s = none := by
  simp [callRead, hq]

theorem callRead_some (h : Handle) (count : Nat) {s : State} {a : Status × List Byte} {rest : List (Status × List Byte)}
    (hq : s.transport.reads = a :: rest) :
    callRead h count s =
      some (a, record (.read h count a.1 a.2) { s with transport := { s.transport with reads := rest } }) := by
  simp [callRead, hq]

theorem callRead_cases (h : Handle) (count : Nat) (s : State) :
    (s.transport.reads = [] ∧ callRead h count s = none) ∨
    ∃ a rest, s.transport.reads = a :: rest ∧ callRead h count s =
      some (a, record (.read h count a.1 a.2) { s with transport := { s.transport with reads := rest } }) := by
  cases hq : s.transport.reads with
  | nil => exact .inl ⟨rfl, callRead_none h count hq⟩
  | cons a rest => exact .inr ⟨a, rest, rfl, callRead_some h count hq⟩

theorem callSleep_none (ms : Nat) {s : State} (hq : s.clock = 0) : callSleep ms s = none := by
  simp [callSleep, hq]

theorem callSleep_some (ms : Nat) {s : State} {later : Nat} (hq : s.clock = later + 1) :
    callSleep ms s = some (record (.sleepMs ms) { s with clock := later }) := by
  simp [callSleep, hq]

end Sys2Proof.Machine
end

