-- ==== Sys2Proof/Laws/PerInstr.lean ====
section
/-! SUPPORT. The statement made of every instruction as syntax: which rows have a frame, and how long it is (R80, R81,
R82, and the opcode table's rows without an encoding). -/

namespace Sys2Proof.Laws.Encoding

/-- The length of an instruction's frame; none for a row without a wire encoding. -/
def frameLength : Instr → Option Nat
  | .writeRegisters _ _ payload => some (payload.length + 8)
  | .readRegisters _ _ _ => some 10
  | .responseToWrite _ _ => some 9
  | .responseToRead _ payload _ => some (9 + payload.length)
  | .selectIndex _ => none
  | .selectSerial _ => none
  | .enumerate => none
  | .discard => none
  | .openSession => none
  | .closeSession => none
  | .transact => none
  | .sum8 _ => none
  | .flush => none
  | .transmit => none
  | .poll => none
  | .receive _ => none
  | .ackCheck => none

/-- A well-formed instruction is encoded exactly if its row has a frame, and the frame has the row's length. -/
def Statement (i : Instr) : Prop := i.wf = true → (encode i).map List.length = frameLength i

theorem toByte?_fits {v : Int} (h : fitsByte v = true) : ∃ b, toByte? v = some b := by simp [toByte?, h]

theorem toHalf?_fits {v : Int} (h : fitsHalf v = true) : ∃ n, toHalf? v = some n := by simp [toHalf?, h]

theorem toBytes?_fits {vs : List Int} (h : vs.all fitsByte = true) :
    ∃ bs, toBytes? vs = some bs ∧ bs.length = vs.length := by
  induction vs with
  | nil => exact ⟨[], rfl, rfl⟩
  | cons v vs ih =>
    simp only [List.all_cons, Bool.and_eq_true] at h
    obtain ⟨b, hb⟩ := toByte?_fits h.1
    obtain ⟨bs, hbs, hl⟩ := ih h.2
    exact ⟨b :: bs, by simp [toBytes?, hb, hbs], by simp [hl]⟩

theorem writeRegisters (dev reg : Int) (payload : List Int) : Statement (.writeRegisters dev reg payload) := by
  intro h
  simp only [Instr.wf, Bool.and_eq_true, decide_eq_true_eq] at h
  obtain ⟨⟨⟨hd, hr⟩, hp⟩, hl⟩ := h
  obtain ⟨d, hd⟩ := toByte?_fits hd
  obtain ⟨r, hr⟩ := toByte?_fits hr
  obtain ⟨p, hp, hpl⟩ := toBytes?_fits hp
  simp only [encode, hd, hr, hp, frameLength]
  rw [if_pos (by omega)]
  simp [hpl]

theorem readRegisters (dev reg length : Int) : Statement (.readRegisters dev reg length) := by
  intro h
  simp only [Instr.wf, Bool.and_eq_true] at h
  obtain ⟨⟨hd, hr⟩, hn⟩ := h
  obtain ⟨d, hd⟩ := toByte?_fits hd
  obtain ⟨r, hr⟩ := toByte?_fits hr
  obtain ⟨n, hn⟩ := toHalf?_fits hn
  simp [encode, hd, hr, hn, frameLength]

theorem responseToWrite (header : List Byte) (trailer : Byte) : Statement (.responseToWrite header trailer) := by
  intro h
  simp only [Instr.wf, decide_eq_true_eq] at h
  simp [encode, h, frameLength, Config.ackOffset]

theorem responseToRead (header payload : List Byte) (trailer : Byte) :
    Statement (.responseToRead header payload trailer) := by
  intro h
  simp only [Instr.wf, Bool.and_eq_true, decide_eq_true_eq] at h
  simp [encode, h.1, frameLength, Config.ackOffset]
  omega

theorem selectIndex (index : Int) : Statement (.selectIndex index) := fun _ => rfl
theorem selectSerial (serial : Str) : Statement (.selectSerial serial) := fun _ => rfl
theorem enumerate : Statement .enumerate := fun _ => rfl
theorem discard : Statement .discard := fun _ => rfl
theorem openSession : Statement .openSession := fun _ => rfl
theorem closeSession : Statement .closeSession := fun _ => rfl
theorem transact : Statement .transact := fun _ => rfl
theorem sum8 (bytes : List Byte) : Statement (.sum8 bytes) := fun _ => rfl
theorem flush : Statement .flush := fun _ => rfl
theorem transmit : Statement .transmit := fun _ => rfl
theorem poll : Statement .poll := fun _ => rfl
theorem receive (count : Nat) : Statement (.receive count) := fun _ => rfl
theorem ackCheck : Statement .ackCheck := fun _ => rfl

end Sys2Proof.Laws.Encoding
end

