-- ==== Sys2Proof/Laws/Sequencer.lean ====
section
/-! SUPPORT. Running an operation part by part: the laws of `runWhile`, said once. -/

namespace Sys2Proof.Machine

variable {within : Phase → Bool} {s t : State}

/-- A call that has not returned leaves the state where it is (U19). -/
theorem phaseStep_awaiting (h : awaiting s = true) : phaseStep s = .next s := by
  unfold awaiting at h
  have hopen : awaitingOpen s = true → openSessionCall s = .blocked := by
    intro ha
    unfold awaitingOpen at ha
    unfold openSessionCall
    split at ha
    · rename_i hd
      simp only [Bool.and_eq_true, List.isEmpty_iff, Option.isSome_iff_exists] at ha
      obtain ⟨⟨hd', hh⟩, hq⟩ := ha
      simp [hd, setTimeoutsPrimitive, hh, callSetTimeouts_none hd' hq]
    · rename_i hd
      simp only [Bool.and_eq_true, List.isEmpty_iff, Option.isSome_iff_exists, Bool.not_eq_true'] at ha
      obtain ⟨⟨ho, ⟨index, hi⟩⟩, hq⟩ := ha
      simp [hd, ho, openPrimitive, hi, callOpen_none index hq]
  split at h
  · cases h
  · rename_i hp
    simp only [Bool.and_eq_true, List.isEmpty_iff, Option.isNone_iff_eq_none] at h
    simp [phaseStep, hp, countCall, h.1, enumerateCall, callEnumerateCount_none h.2]
  · rename_i hp
    split at h
    · rename_i i want hi hw
      split at h
      · rename_i hc
        simp only [List.isEmpty_iff] at h
        simp [phaseStep, hp, descriptorCall, hi, hc, hw, enumerateCall, callEnumerateCount_none h]
      · rename_i count hc
        simp only [Bool.and_eq_true, List.isEmpty_iff, decide_eq_true_eq] at h
        simp [phaseStep, hp, descriptorCall, hi, hc, hw, h.1, callEnumerateDescriptor_none i h.2]
    · cases h
  · rename_i hp
    simp [phaseStep, hp, openCall, hopen h]
  · cases h
  · rename_i hp
    simp only [Bool.and_eq_true, List.isEmpty_iff, inSession, Option.isSome_iff_exists] at h
    obtain ⟨⟨ho, ⟨hd, hh⟩⟩, hq⟩ := h
    simp [phaseStep, hp, flushCall, withSession_open hh ho, callFlushBuffers_none hd hq]
  · rename_i hp
    simp only [Bool.and_eq_true, List.isEmpty_iff, inSession, Option.isSome_iff_exists] at h
    obtain ⟨⟨⟨ho, ⟨hd, hh⟩⟩, ⟨frame, hf⟩⟩, hq⟩ := h
    simp [phaseStep, hp, transmitCall, hf, withSession_open hh ho, callWrite_none hd frame hq]
  · rename_i hp
    simp only [Bool.and_eq_true, List.isEmpty_iff, inSession, Option.isSome_iff_exists,
      Option.isNone_iff_eq_none] at h
    obtain ⟨⟨⟨⟨ho, ⟨hd, hh⟩⟩, hn⟩, ⟨polls, hc⟩⟩, hq⟩ := h
    simp [phaseStep, hp, pollCall, hn, hc, withSession_open hh ho, callCheckQueueStatus_none hd hq]
  · rename_i hp
    simp only [Bool.and_eq_true, decide_eq_true_eq, Option.isSome_iff_exists] at h
    obtain ⟨⟨polls, hc⟩, hq⟩ := h
    simp [phaseStep, hp, waitCall, hc, callSleep_none _ hq]
  · rename_i hp
    split at h
    · rename_i n hn
      simp only [Bool.and_eq_true, List.isEmpty_iff, inSession, Option.isSome_iff_exists] at h
      obtain ⟨⟨ho, ⟨hd, hh⟩⟩, hq⟩ := h
      simp [phaseStep, hp, receiveResponse, hn, receiveCall, withSession_open hh ho, callRead_none hd _ hq]
    · cases h
  · cases h
  · rename_i hp
    split at h
    · rename_i hm
      simp [phaseStep, hp, reopenCall, hm, hopen h]
    · rename_i hm
      simp only [Bool.and_eq_true, List.isEmpty_iff, Option.isSome_iff_exists] at h
      obtain ⟨⟨index, hi⟩, hq⟩ := h
      simp [phaseStep, hp, reopenCall, hm, openPrimitive, hi, callOpen_none index hq]
  · rename_i hp
    simp only [List.isEmpty_iff] at h
    simp [phaseStep, hp, closeCall, callClose_none _ h]

theorem runWhile_zero : runWhile within 0 s = .next s := rfl

/-- Outside its phases nothing runs. -/
theorem runWhile_stop (fuel : Nat) (h : within s.phase = false) : runWhile within fuel s = .next s := by
  cases fuel <;> simp [runWhile, h]

/-- An operation whose call has not returned stays where it is. -/
theorem runWhile_awaiting (fuel : Nat) (h : awaiting s = true) : runWhile within fuel s = .next s := by
  cases fuel <;> simp [runWhile, h]

/-- One part, then the rest. -/
theorem runWhile_succ (fuel : Nat) (h : within s.phase = true) :
    runWhile within (fuel + 1) s = andThen (phaseStep s) (runWhile within fuel) := by
  cases ha : awaiting s with
  | true => rw [runWhile_awaiting _ ha, phaseStep_awaiting ha, andThen_next, runWhile_awaiting _ ha]
  | false => simp [runWhile, h, ha]

/-- One part that goes on. -/
theorem runWhile_step {fuel : Nat} (h : within s.phase = true) (hs : phaseStep s = .next t) :
    runWhile within (fuel + 1) s = runWhile within fuel t := by
  rw [runWhile_succ fuel h, hs]; rfl

/-- A call that has not returned leaves the state where it is, however long one waits (U19). -/
theorem runWhile_blocked (fuel : Nat) (hs : phaseStep s = .next s) : runWhile within fuel s = .next s := by
  induction fuel with
  | zero => rfl
  | succ n ih =>
    cases hw : within s.phase with
    | false => exact runWhile_stop _ hw
    | true => rw [runWhile_step hw hs, ih]

/-- Running on after running. -/
theorem runWhile_add (m n : Nat) (s : State) :
    runWhile within (m + n) s = andThen (runWhile within m s) (runWhile within n) := by
  induction m generalizing s with
  | zero => rw [Nat.zero_add, runWhile_zero]; rfl
  | succ m ih =>
    cases hw : within s.phase with
    | false => simp [runWhile_stop _ hw]
    | true =>
      rw [show m + 1 + n = (m + n) + 1 by omega, runWhile_succ _ hw, runWhile_succ _ hw]
      cases hp : phaseStep s with
      | next u => simp [ih]
      | fault e => rfl
      | refused e => rfl

/-- Parts that are known to have run are taken off. -/
theorem runWhile_of_reached {m n : Nat} (hmn : m ≤ n) (h : runWhile within m s = .next t) :
    runWhile within n s = runWhile within (n - m) t := by
  rw [show n = m + (n - m) by omega, runWhile_add, h]; simp

/-- An operation that is over stays over. -/
theorem runWhile_done {m n : Nat} (hmn : m ≤ n) (h : runWhile within m s = .next t) (ht : within t.phase = false) :
    runWhile within n s = .next t := by
  rw [runWhile_of_reached hmn h, runWhile_stop _ ht]

/-- A property that every part keeps, the whole run keeps. -/
theorem runWhile_keeps {P : State → Prop} (hP : ∀ a b, P a → phaseStep a = .next b → P b)
    {fuel : Nat} (hs : P s) (h : runWhile within fuel s = .next t) : P t := by
  induction fuel generalizing s with
  | zero => cases h; exact hs
  | succ n ih =>
    cases hw : within s.phase with
    | false => rw [runWhile_stop _ hw] at h; cases h; exact hs
    | true =>
      rw [runWhile_succ _ hw] at h
      obtain ⟨u, hu, hr⟩ := andThen_eq_next h
      exact ih (hP _ _ hs hu) hr

/-- A reflexive and transitive relation that every part satisfies, the whole run satisfies. -/
theorem runWhile_relates {R : State → State → Prop} (hrefl : ∀ a, R a a)
    (htrans : ∀ a b c, R a b → R b c → R a c) (hR : ∀ a b, phaseStep a = .next b → R a b)
    {fuel : Nat} (h : runWhile within fuel s = .next t) : R s t := by
  induction fuel generalizing s with
  | zero => cases h; exact hrefl _
  | succ n ih =>
    cases hw : within s.phase with
    | false => rw [runWhile_stop _ hw] at h; cases h; exact hrefl _
    | true =>
      rw [runWhile_succ _ hw] at h
      obtain ⟨u, hu, hr⟩ := andThen_eq_next h
      exact htrans _ _ _ (hR _ _ hu) (ih hr)

/-! ## The phases -/

theorem phaseStep_idle (h : s.phase = .idle) : phaseStep s = .next s := by simp [phaseStep, h]
theorem phaseStep_enumCount (h : s.phase = .enumCount) : phaseStep s = countCall s := by simp [phaseStep, h]
theorem phaseStep_enumDesc (h : s.phase = .enumDesc) : phaseStep s = descriptorCall s := by simp [phaseStep, h]
theorem phaseStep_opening (h : s.phase = .opening) : phaseStep s = openCall s := by simp [phaseStep, h]
theorem phaseStep_build (h : s.phase = .build) : phaseStep s = buildCall s := by simp [phaseStep, h]
theorem phaseStep_flushing (h : s.phase = .flushing) : phaseStep s = flushCall s := by simp [phaseStep, h]
theorem phaseStep_transmitting (h : s.phase = .transmitting) : phaseStep s = transmitCall s := by simp [phaseStep, h]
theorem phaseStep_polling (h : s.phase = .polling) : phaseStep s = pollCall s := by simp [phaseStep, h]
theorem phaseStep_waiting (h : s.phase = .waiting) : phaseStep s = waitCall s := by simp [phaseStep, h]
theorem phaseStep_receiving (h : s.phase = .receiving) : phaseStep s = receiveResponse s := by simp [phaseStep, h]
theorem phaseStep_checking (h : s.phase = .checking) : phaseStep s = checkCall s := by simp [phaseStep, h]
theorem phaseStep_reopening (h : s.phase = .reopening) : phaseStep s = reopenCall s := by simp [phaseStep, h]
theorem phaseStep_closing (h : s.phase = .closing) : phaseStep s = closeCall s := by simp [phaseStep, h]

end Sys2Proof.Machine
end

