-- ==== Sys2Proof/Laws/Phases.lean ====
section
/-! SUPPORT. What a part of an operation can do, phase by phase: one inversion lemma for each call of the sequencer,
from which every frame and every invariant is read off. -/

namespace Sys2Proof.Machine

variable {s t : State}

theorem flushCall_next (h : flushCall s = .next t) :
    ∃ hd, s.handle = some hd ∧ s.isOpen = true ∧
      (s.transport.flushes = [] ∧ t = s ∨
       ∃ st rest, s.transport.flushes = st :: rest ∧
        t = let s1 := record (.flushBuffers hd st) { s with transport := { s.transport with flushes := rest } }
            if st ≠ 0 then raiseDriver st s1 else goTo .transmitting s1) := by
  obtain ⟨hd, hh, ho, h⟩ := withSession_eq_next h
  refine ⟨hd, hh, ho, ?_⟩
  rcases callFlushBuffers_cases hd s with ⟨hq, hc⟩ | ⟨st, rest, hq, hc⟩ <;> rw [hc] at h <;> cases h
  · exact .inl ⟨hq, rfl⟩
  · exact .inr ⟨st, rest, hq, rfl⟩

theorem transmitCall_next (h : transmitCall s = .next t) :
    ∃ frame hd, s.txbuf = some frame ∧ s.handle = some hd ∧ s.isOpen = true ∧
      (s.transport.writes = [] ∧ t = s ∨
       ∃ st n rest, s.transport.writes = (st, n) :: rest ∧
        t = let s1 := record (.write hd frame st n) { s with transport := { s.transport with writes := rest } }
            if st ≠ 0 then raiseDriver st s1
            else if n ≠ frame.length then raiseIo .transmit frame.length n s1
            else transmitted n s1) := by
  obtain ⟨frame, hf, h⟩ := reading_eq_next h
  obtain ⟨hd, hh, ho, h⟩ := withSession_eq_next h
  refine ⟨frame, hd, hf, hh, ho, ?_⟩
  rcases callWrite_cases hd frame s with ⟨hq, hc⟩ | ⟨⟨st, n⟩, rest, hq, hc⟩ <;> rw [hc] at h <;> cases h
  · exact .inl ⟨hq, rfl⟩
  · exact .inr ⟨st, n, rest, hq, rfl⟩

theorem pollCall_next (h : pollCall s = .next t) :
    (∃ code, s.qstatus = some code ∧ t = pollDecided code s) ∨
    (∃ polls hd, s.qstatus = none ∧ s.pollCnt = some polls ∧ s.handle = some hd ∧ s.isOpen = true ∧
      (s.transport.queueStatus = [] ∧ t = s ∨
       ∃ st av code rest, s.transport.queueStatus = (st, av, code) :: rest ∧
        t = let s1 := polled polls code (record (.checkQueueStatus hd st av code)
              { s with transport := { s.transport with queueStatus := rest } })
            if st ≠ 0 then raiseDriver st s1 else s1)) := by
  unfold pollCall at h
  split at h
  · rename_i code hq; cases h; exact .inl ⟨code, hq, rfl⟩
  · rename_i hn
    obtain ⟨polls, hp, h⟩ := reading_eq_next h
    obtain ⟨hd, hh, ho, h⟩ := withSession_eq_next h
    refine .inr ⟨polls, hd, hn, hp, hh, ho, ?_⟩
    rcases callCheckQueueStatus_cases hd s with ⟨hq, hc⟩ | ⟨⟨st, av, code⟩, rest, hq, hc⟩ <;> rw [hc] at h <;> cases h
    · exact .inl ⟨hq, rfl⟩
    · exact .inr ⟨st, av, code, rest, hq, rfl⟩

/-- The wait, its clock call having returned. -/
theorem waitCall_returns {polls later : Nat} (hc : s.pollCnt = some polls) (hq : s.clock = later + 1) :
    waitCall s = .next
      (let s1 := record (.sleepMs Config.pollIntervalMs) { s with clock := later }
       if polls = Config.pollLimit then raise .timeoutError none s1 else goTo .polling s1) := by
  by_cases h : polls = Config.pollLimit <;>
    simp [waitCall, hc, callSleep_some _ hq, pollsExhausted, State.pollLimit, State.pollIntervalMs, h]

theorem waitCall_next (h : waitCall s = .next t) :
    ∃ polls, s.pollCnt = some polls ∧
      (s.clock = 0 ∧ t = s ∨
       ∃ later, s.clock = later + 1 ∧
        t = let s1 := record (.sleepMs Config.pollIntervalMs) { s with clock := later }
            if polls = Config.pollLimit then raise .timeoutError none s1 else goTo .polling s1) := by
  obtain ⟨polls, hc, -⟩ := reading_eq_next h
  refine ⟨polls, hc, ?_⟩
  obtain hq | ⟨later, hq⟩ : s.clock = 0 ∨ ∃ later, s.clock = later + 1 := by
    cases s.clock with
    | zero => exact .inl rfl
    | succ later => exact .inr ⟨later, rfl⟩
  · simp only [waitCall, hc, reading_some, callSleep_none _ hq, Host.Outcome.next.injEq] at h
    exact .inl ⟨hq, h.symm⟩
  · rw [waitCall_returns hc hq] at h
    cases h
    exact .inr ⟨later, hq, rfl⟩

theorem receiveCall_next {count : Nat} (h : receiveCall count s = .next t) :
    ∃ hd, s.handle = some hd ∧ s.isOpen = true ∧
      (s.transport.reads = [] ∧ t = s ∨
       ∃ st bytes rest, s.transport.reads = (st, bytes) :: rest ∧
        t = let s1 := record (.read hd count st bytes) { s with transport := { s.transport with reads := rest } }
            if st ≠ 0 then raiseDriver st s1
            else if bytes.length ≠ count then raiseIo .receive count bytes.length s1
            else { s1 with rxbuf := some bytes, phase := .checking }) := by
  obtain ⟨hd, hh, ho, h⟩ := withSession_eq_next h
  refine ⟨hd, hh, ho, ?_⟩
  rcases callRead_cases hd count s with ⟨hq, hc⟩ | ⟨⟨st, bytes⟩, rest, hq, hc⟩ <;> rw [hc] at h <;> cases h
  · exact .inl ⟨hq, rfl⟩
  · exact .inr ⟨st, bytes, rest, hq, rfl⟩

theorem receiveResponse_next (h : receiveResponse s = .next t) :
    ∃ n, responsePayload s = .ok n ∧ receiveCall (Config.respOverhead + n) s = .next t := by
  unfold receiveResponse at h
  split at h
  · rename_i n hn; exact ⟨n, hn, h⟩
  · cases h

theorem ackCheckStep_next (h : ackCheckStep s = .next t) :
    ∃ bytes, s.rxbuf = some bytes ∧
      ((∃ b, bytes[7]? = some b ∧
        t = if b = Config.ack then s else raise .protocolError (some (.ackCheckFailed b)) s) ∨
       (bytes[7]? = none ∧ ∃ n, responsePayload s = .ok n ∧ t = raiseIo .receive (9 + n) bytes.length s)) := by
  obtain ⟨bytes, hb, h⟩ := reading_eq_next h
  refine ⟨bytes, hb, ?_⟩
  split at h
  · rename_i h7
    split at h
    · rename_i n hn; cases h; exact .inr ⟨h7, n, hn, rfl⟩
    · cases h
  · rename_i b h7
    cases h
    exact .inl ⟨b, h7, by simp [ackOk]⟩

theorem execResponseToWrite_next {header : List Byte} {trailer : Byte}
    (h : execResponseToWrite header trailer s = .next t) :
    s.op = some .writeRegisters ∧
      (header.length ≠ 7 ∧ t = raiseIo .receive 9 (header.length + 2) s ∨
       header.length = 7 ∧ ∃ n, writtenCount s = .ok n ∧ t = responseTaken { s with bytesWritten := some n }) := by
  unfold execResponseToWrite at h
  split at h
  · rename_i ho
    refine ⟨ho, ?_⟩
    split at h
    · rename_i hl; cases h; exact .inl ⟨hl, rfl⟩
    · rename_i hl
      split at h
      · rename_i n hn; cases h; exact .inr ⟨by simpa [Config.ackOffset] using hl, n, hn, rfl⟩
      · cases h
  · cases h

theorem execResponseToRead_next {header payload : List Byte} {trailer : Byte}
    (h : execResponseToRead header payload trailer s = .next t) :
    s.op = some .readRegisters ∧ ∃ n, s.length = some n ∧
      ((header.length ≠ 7 ∨ payload.length ≠ n.toNat) ∧
          t = raiseIo .receive (9 + n.toNat) (header.length + 2 + payload.length) s ∨
       header.length = 7 ∧ payload.length = n.toNat ∧ t = responseTaken { s with rdata := some payload }) := by
  unfold execResponseToRead at h
  split at h
  · rename_i ho
    refine ⟨ho, ?_⟩
    obtain ⟨n, hn, h⟩ := reading_eq_next h
    refine ⟨n, hn, ?_⟩
    split at h
    · rename_i hl; cases h; exact .inl ⟨hl, rfl⟩
    · rename_i hl
      cases h
      simp only [not_or, not_not, Config.ackOffset] at hl
      exact .inr ⟨hl.1, hl.2, rfl⟩
  · cases h

/-- A response of the awaited count decodes exactly where its offset 7 is the acknowledgement (R82, R90, R92). -/
theorem decodeResponse_eq_ok {n : Nat} {bytes : List Byte} (hl : bytes.length = 9 + n)
    (ha : bytes[7]? = some Config.ack) :
    decodeResponse n bytes = .ok (bytes.take 7, (bytes.drop 8).take n, (bytes[8 + n]?).getD 0#8) := by
  obtain ⟨h7, ha⟩ := List.getElem?_eq_some_iff.mp ha
  have hdrop : bytes.drop 7 = Config.ack :: bytes.drop 8 := by
    rw [List.drop_eq_getElem_cons h7, ha]
  have hlast : (bytes.drop 8).drop n = [bytes[8 + n]] := by
    rw [List.drop_drop, List.drop_eq_getElem_cons (by omega), List.drop_eq_nil_of_le (by omega)]
  unfold decodeResponse
  have h9 : ¬ bytes.length ≠ Config.respOverhead + n := by simp [Config.respOverhead, hl]
  rw [if_neg h9]
  simp only [Config.ackOffset, hdrop, ne_eq, not_true_eq_false, if_false, hlast]
  rw [List.getElem?_eq_getElem (by omega)]
  rfl

/-- The step in `CHECKING` on a buffer of the awaited length: the acknowledgement decides, and the result is the
operation's own (R142, R157, R176). -/
theorem checkCall_acked_write {bytes : List Byte} (hp : s.phase = .checking) (ho : s.op = some .writeRegisters)
    (hb : s.rxbuf = some bytes) (hl : bytes.length = 9) (ha : bytes[7]? = some Config.ack) :
    checkCall s = match writtenCount s with
      | .ok n => .next (responseTaken { s with bytesWritten := some n })
      | .error r => .refused r := by
  have h7 : ackCheckStep s = .next s := by simp [ackCheckStep, hb, Config.ackOffset, ha, ackOk]
  have hd := decodeResponse_eq_ok (n := 0) (by omega) ha
  simp only [checkCall, h7, andThen_next, hp, if_true, takeResponse, hb, reading_some, responsePayload, ho,
    responseChannel, decode, hd, execResponseToWrite]
  simp only [List.length_take, hl]
  rfl

theorem checkCall_write {bytes : List Byte} (hp : s.phase = .checking) (ho : s.op = some .writeRegisters)
    (hb : s.rxbuf = some bytes) (hl : bytes.length = 9) {n : Nat} (hn : s.writeCount = some n)
    (ha : bytes[7]? = some Config.ack) :
    checkCall s = .next (responseTaken { s with bytesWritten := some n }) := by
  simp [checkCall_acked_write hp ho hb hl ha, writtenCount, hn]

theorem checkCall_read {bytes : List Byte} {n : Half} (hp : s.phase = .checking) (ho : s.op = some .readRegisters)
    (hb : s.rxbuf = some bytes) (hn : s.length = some n) (hl : bytes.length = 9 + n.toNat)
    (ha : bytes[7]? = some Config.ack) :
    checkCall s = .next (responseTaken { s with rdata := some ((bytes.drop 8).take n.toNat) }) := by
  have h7 : ackCheckStep s = .next s := by simp [ackCheckStep, hb, Config.ackOffset, ha, ackOk]
  have hd := decodeResponse_eq_ok (n := n.toNat) hl ha
  simp only [checkCall, h7, andThen_next, hp, if_true, takeResponse, hb, reading_some, responsePayload, ho, hn,
    held_some, Except.map, responseChannel, decode, hd, execResponseToRead]
  have h1 : (bytes.take 7).length = 7 := by simp; omega
  have h2 : ((bytes.drop 8).take n.toNat).length = n.toNat := by simp; omega
  rw [if_neg (by simp [h1, h2, Config.ackOffset])]

theorem checkCall_badAck {bytes : List Byte} {b : Byte} (hb : s.rxbuf = some bytes)
    (h7 : bytes[7]? = some b) (ha : b ≠ Config.ack) :
    checkCall s = .next (raise .protocolError (some (.ackCheckFailed b)) s) := by
  have h : ackCheckStep s = .next (raise .protocolError (some (.ackCheckFailed b)) s) := by
    simp [ackCheckStep, hb, Config.ackOffset, h7, ackOk, ha]
  have hne : (raise .protocolError (some (.ackCheckFailed b)) s).phase ≠ .checking := by
    rw [raise_phase]; split <;> simp
  simp only [checkCall, h, andThen_next, if_neg hne]

theorem buildCall_next (h : buildCall s = .next t) : ∃ body, requestBody s = .ok body ∧ t = loadRequest body s := by
  unfold buildCall at h
  split at h
  · rename_i body hb; cases h; exact ⟨body, hb, rfl⟩
  · cases h

/-- What the operand registers of an encodable request hold (R93). -/
theorem requestBody_ok {body : List Byte} (h : requestBody s = .ok body) :
    ∃ d r, s.devAddr = some d ∧ s.regAddr = some r ∧
      ((∃ p, s.op = some .writeRegisters ∧ s.payload = some p ∧ PayloadFits s.params p ∧ body = bodyW d r p) ∨
       (∃ n, s.op = some .readRegisters ∧ s.length = some n ∧ body = bodyR d r n)) := by
  unfold requestBody at h
  split at h
  · rename_i ho
    obtain ⟨d, hd, h⟩ := held_bind_ok h
    obtain ⟨r, hr, h⟩ := held_bind_ok h
    obtain ⟨p, hp, h⟩ := held_bind_ok h
    refine ⟨d, r, hd, hr, ?_⟩
    split at h
    · rename_i hf; cases h; exact .inl ⟨p, ho, hp, hf, rfl⟩
    · cases h
  · rename_i ho
    obtain ⟨d, hd, h⟩ := held_bind_ok h
    obtain ⟨r, hr, h⟩ := held_bind_ok h
    obtain ⟨n, hn, h⟩ := held_bind_ok h
    cases h
    exact ⟨d, r, hd, hr, .inr ⟨n, ho, hn, rfl⟩⟩
  · cases h

theorem requestBody_write {d r : Byte} {p : List Byte} (ho : s.op = some .writeRegisters) (hd : s.devAddr = some d)
    (hr : s.regAddr = some r) (hp : s.payload = some p) :
    requestBody s = if PayloadFits s.params p then .ok (bodyW d r p) else .error .unencodable := by
  simp [requestBody, ho, hd, hr, hp]

theorem requestBody_read {d r : Byte} {n : Half} (ho : s.op = some .readRegisters) (hd : s.devAddr = some d)
    (hr : s.regAddr = some r) (hn : s.length = some n) : requestBody s = .ok (bodyR d r n) := by
  simp [requestBody, ho, hd, hr, hn]

theorem isTransaction_of_requestBody {body : List Byte} (h : requestBody s = .ok body) : isTransaction s = true := by
  obtain ⟨_, _, _, _, ⟨_, ho, _⟩ | ⟨_, ho, _⟩⟩ := requestBody_ok h <;> simp [isTransaction, ho]

/-- `TRANSACT` issued with operands that can be encoded (R127). -/
theorem transactEntry_issue {body : List Byte} (hp : s.phase = .idle) (hc : s.configured = true)
    (hb : requestBody s = .ok body) : transactEntry s = .next (beginOperation .opening s) := by
  simp [transactEntry, isTransaction_of_requestBody hb, hp, hc, hb]

/-- `TRANSACT` issued with operands that cannot (R93, R127). -/
theorem transactEntry_refused {r : Refusal} (ht : isTransaction s = true) (hp : s.phase = .idle)
    (hc : s.configured = true) (hb : requestBody s = .error r) : transactEntry s = .refused r := by
  simp [transactEntry, ht, hp, hc, hb]

@[simp] theorem writtenCount_kept {n : Nat} (h : s.writeCount = some n) : writtenCount s = .ok n := by
  simp only [writtenCount, h]

theorem countCall_next (h : countCall s = .next t) :
    (s.scanCount = none ∧ s.transport.counts = [] ∧ t = s) ∨
    (∃ st count rest, s.scanCount = none ∧ s.transport.counts = (st, count) :: rest ∧
      t = let s1 := record (.enumerateCount st count) { s with transport := { s.transport with counts := rest } }
          if st ≠ 0 then raiseDriver st s1 else { s1 with scanCount := some count }) ∨
    (∃ count index, s.scanCount = some count ∧ s.op = some .selectIndex ∧ s.selIndex = some index ∧
      t = if indexInRange index count then configure index.toNat s else raise .rangeError none s) ∨
    (∃ count, s.scanCount = some count ∧ s.op = some .selectSerial ∧
      t = { s with phase := .enumDesc, scanIdx := some 0, scanFound := none }) := by
  unfold countCall at h
  split at h
  · rename_i hc
    unfold enumerateCall at h
    rcases callEnumerateCount_cases s with ⟨hq, he⟩ | ⟨⟨st, count⟩, rest, hq, he⟩ <;> rw [he] at h <;> cases h
    · exact .inl ⟨hc, hq, rfl⟩
    · exact .inr (.inl ⟨st, count, rest, hc, hq, rfl⟩)
  · rename_i count hc
    unfold selectDecision at h
    split at h
    · rename_i ho
      obtain ⟨index, hi, h⟩ := reading_eq_next h
      · cases h; exact .inr (.inr (.inl ⟨count, index, hc, ho, hi, rfl⟩))
    · rename_i ho; cases h; exact .inr (.inr (.inr ⟨count, hc, ho, rfl⟩))
    · cases h

theorem descriptorCall_next (h : descriptorCall s = .next t) :
    ∃ i want, s.scanIdx = some i ∧ s.selSerial = some want ∧
      (s.scanCount = none ∧ enumerateCall s = .next t ∨
       ∃ count, s.scanCount = some count ∧
        (i < count ∧ s.transport.descriptors = [] ∧ t = s ∨
         (∃ st value rest, i < count ∧ s.transport.descriptors = (st, value) :: rest ∧
          t = let s1 := record (.enumerateDescriptor i .serial st value)
                { s with transport := { s.transport with descriptors := rest } }
              if st ≠ 0 then raiseDriver st s1 else scanned want value i s1) ∨
         count ≤ i ∧ t = scanDecision s)) := by
  obtain ⟨i, hi, h⟩ := reading_eq_next h
  obtain ⟨want, hw, h⟩ := reading_eq_next h
  refine ⟨i, want, hi, hw, ?_⟩
  split at h
  · rename_i hc; exact .inl ⟨hc, h⟩
  · rename_i count hc
    refine .inr ⟨count, hc, ?_⟩
    split at h
    · rename_i hlt
      rcases callEnumerateDescriptor_cases i s with ⟨hq, he⟩ | ⟨⟨st, value⟩, rest, hq, he⟩ <;> rw [he] at h <;> cases h
      · exact .inl ⟨hlt, hq, rfl⟩
      · exact .inr (.inl ⟨st, value, rest, hlt, hq, rfl⟩)
    · rename_i hlt; cases h; exact .inr (.inr ⟨by omega, rfl⟩)

/-- What a call of `OPEN_SESSION` can come to (R125). -/
theorem openSessionCall_cases (s : State) :
    (∃ r, openSessionCall s = .refused r) ∨
    (s.setTimeoutsDue = true ∧ ∃ hd, s.handle = some hd ∧
      (s.transport.timeouts = [] ∧ openSessionCall s = .blocked ∨
       ∃ st rest, s.transport.timeouts = st :: rest ∧
        openSessionCall s =
          let s1 := { record (.setTimeouts hd s.readTimeoutMs s.writeTimeoutMs st)
                { s with transport := { s.transport with timeouts := rest } } with setTimeoutsDue := false }
          if st ≠ 0 then .failed st s1 else .done s1)) ∨
    (s.setTimeoutsDue = false ∧ s.isOpen = true ∧ openSessionCall s = .done s) ∨
    (s.setTimeoutsDue = false ∧ s.isOpen = false ∧ ∃ index, s.devIndex = some index ∧
      (s.transport.opens = [] ∧ openSessionCall s = .blocked ∨
       ∃ st hd rest, s.transport.opens = (st, hd) :: rest ∧
        openSessionCall s =
          let s1 := record (.openDevice index st hd) { s with transport := { s.transport with opens := rest } }
          if st ≠ 0 then .failed st s1
          else .done { s1 with handle := some hd, isOpen := true, setTimeoutsDue := true })) := by
  cases hd : s.setTimeoutsDue with
  | true =>
    cases hh : s.handle with
    | none => exact .inl ⟨_, by simp [openSessionCall, hd, setTimeoutsPrimitive, hh]; rfl⟩
    | some h0 =>
      refine .inr (.inl ⟨rfl, h0, rfl, ?_⟩)
      rcases callSetTimeouts_cases h0 s with ⟨hq, hc⟩ | ⟨st, rest, hq, hc⟩
      · exact .inl ⟨hq, by simp [openSessionCall, hd, setTimeoutsPrimitive, hh, hc]⟩
      · exact .inr ⟨st, rest, hq, by simp only [openSessionCall, hd, if_true, setTimeoutsPrimitive, hh, held_some, hc]⟩
  | false =>
    cases ho : s.isOpen with
    | true => exact .inr (.inr (.inl ⟨rfl, rfl, by simp [openSessionCall, hd, ho]⟩))
    | false =>
      cases hi : s.devIndex with
      | none => exact .inl ⟨_, by simp [openSessionCall, hd, ho, openPrimitive, hi]; rfl⟩
      | some index =>
        refine .inr (.inr (.inr ⟨rfl, rfl, index, rfl, ?_⟩))
        rcases callOpen_cases index s with ⟨hq, hc⟩ | ⟨⟨st, h0⟩, rest, hq, hc⟩
        · exact .inl ⟨hq, by simp [openSessionCall, hd, ho, openPrimitive, hi, hc]⟩
        · refine .inr ⟨st, h0, rest, hq, ?_⟩
          by_cases hst : st = 0 <;> simp [openSessionCall, hd, ho, openPrimitive, hi, hc, hst]

/-- What `T.open` of the close sequence can come to with `REOPEN_IN_CLOSE = always` (R126). -/
theorem openPrimitive_cases (s : State) :
    (s.devIndex = none ∧ openPrimitive s = .refused (.noValue .devIndex)) ∨
    ∃ index, s.devIndex = some index ∧
      (s.transport.opens = [] ∧ openPrimitive s = .blocked ∨
       ∃ st hd rest, s.transport.opens = (st, hd) :: rest ∧
        openPrimitive s =
          let s1 := record (.openDevice index st hd) { s with transport := { s.transport with opens := rest } }
          if st ≠ 0 then .failed st s1 else .done { s1 with handle := some hd, isOpen := true }) := by
  cases hi : s.devIndex with
  | none => exact .inl ⟨rfl, by simp [openPrimitive, hi]⟩
  | some index =>
    refine .inr ⟨index, rfl, ?_⟩
    rcases callOpen_cases index s with ⟨hq, hc⟩ | ⟨⟨st, h0⟩, rest, hq, hc⟩
    · exact .inl ⟨hq, by simp [openPrimitive, hi, hc]⟩
    · exact .inr ⟨st, h0, rest, hq, by simp only [openPrimitive, hi, held_some, hc]⟩

theorem closeCall_cases (s : State) :
    (s.transport.closes = [] ∧ closeCall s = .next s) ∨
    ∃ st rest, s.transport.closes = st :: rest ∧
      closeCall s = .next
        (let s2 := sessionClosed st (if s.handle = none then s.draws + 1 else s.draws)
            (record (.close (closeHandle s) st) { s with transport := { s.transport with closes := rest } })
         if st ≠ 0 then raiseDriver st s2 else goIdle s2) := by
  rcases callClose_cases (closeHandle s) s with ⟨hq, hc⟩ | ⟨st, rest, hq, hc⟩
  · exact .inl ⟨hq, by simp [closeCall, hc]⟩
  · exact .inr ⟨st, rest, hq, by simp only [closeCall, hc]⟩

end Sys2Proof.Machine
end

