-- ==== Sys2Proof/Laws/Runs.lean ====
section
/-! SUPPORT. Runs of several parts, said once: one poll, many polls, the three ways a polling ends, and the close
call. Each is one rewrite of `runWhile` on a state written out by its changed fields. -/

namespace Sys2Proof.Machine

/-! ## Polling -/

/-- A block about to poll: `c` polls made, `k` clock calls that will return, the answers `q` to come, the calls `calls`
made. -/
def pollingAt (s : State) (c k : Nat) (q : List PollAnswer) (calls : List Call) : State :=
  { s with
    phase := .polling, pollCnt := some c, qstatus := none, clock := k,
    transport := { s.transport with queueStatus := q }, calls := calls }

@[simp] theorem pollingAt_qstatus (s : State) (c k : Nat) (q : List PollAnswer) (calls : List Call) :
    (pollingAt s c k q calls).qstatus = none := rfl

@[simp] theorem pollingAt_pollCnt (s : State) (c k : Nat) (q : List PollAnswer) (calls : List Call) :
    (pollingAt s c k q calls).pollCnt = some c := rfl

@[simp] theorem pollingAt_phase (s : State) (c k : Nat) (q : List PollAnswer) (calls : List Call) :
    (pollingAt s c k q calls).phase = .polling := rfl

@[simp] theorem pollingAt_clock (s : State) (c k : Nat) (q : List PollAnswer) (calls : List Call) :
    (pollingAt s c k q calls).clock = k := rfl

theorem notReady_iff (a : PollAnswer) : notReady a = true ↔ a.1 = 0 ∧ isReady a.2.2 = false := by simp [notReady]

section Polling

variable {w : Phase → Bool} (hw : w .polling = true) {s : State} {h : Handle} (hs : SessionOpen s h)

include hw hs in
/-- The call of a poll. -/
theorem poll_call (c k n : Nat) (st : Status) (av : Nat) (code : Int) (q : List PollAnswer) (calls : List Call) :
    let s1 := { pollingAt s (c + 1) k q (calls ++ [.checkQueueStatus h st av code]) with qstatus := some code }
    runWhile w (n + 1) (pollingAt s c k ((st, av, code) :: q) calls) =
      runWhile w n (if st ≠ 0 then raiseDriver st s1 else s1) := by
  have e : phaseStep (pollingAt s c k ((st, av, code) :: q) calls) =
      .next (let s1 := { pollingAt s (c + 1) k q (calls ++ [.checkQueueStatus h st av code]) with qstatus := some code }
        if st ≠ 0 then raiseDriver st s1 else s1) := by
    rw [phaseStep_polling rfl]
    simp only [pollCall, pollingAt_qstatus, pollingAt_pollCnt, reading_some]
    rw [withSession_open (h := h) (by exact hs.handle) (by exact hs.session),
      callCheckQueueStatus_some h (a := (st, av, code)) (rest := q) rfl]
    rfl
  exact runWhile_step (fuel := n) hw e

include hw in
/-- The decision on a poll. -/
theorem poll_decide (c k n : Nat) (code : Int) (q : List PollAnswer) (calls : List Call) :
    runWhile w (n + 1) { pollingAt s c k q calls with qstatus := some code } =
      runWhile w n (goTo (if isReady code then .receiving else .waiting) (pollingAt s c k q calls)) := by
  refine runWhile_step (fuel := n) hw ?_
  rw [phaseStep_polling rfl]
  rfl

/-- The wait after a poll that was not the last. -/
theorem poll_wait (hw2 : w .waiting = true) (c k n : Nat) (hc : c ≠ 100) (q : List PollAnswer) (calls : List Call) :
    runWhile w (n + 1) (goTo .waiting (pollingAt s c (k + 1) q calls)) =
      runWhile w n (pollingAt s c k q (calls ++ [.sleepMs Config.pollIntervalMs])) := by
  refine runWhile_step (fuel := n) hw2 ?_
  rw [phaseStep_waiting rfl, waitCall_returns (polls := c) (later := k) rfl rfl]
  simp [Config.pollLimit, hc, pollingAt, goTo, record]

include hw hs in
/-- One unsuccessful poll that is not the last. -/
theorem poll_one (hw2 : w .waiting = true) (c k n : Nat) (a : PollAnswer) (q : List PollAnswer) (calls : List Call)
    (ha : notReady a = true) (hc : c + 1 < 100) :
    runWhile w (n + 3) (pollingAt s c (k + 1) (a :: q) calls) =
      runWhile w n (pollingAt s (c + 1) k q
        (calls ++ [.checkQueueStatus h a.1 a.2.1 a.2.2, .sleepMs Config.pollIntervalMs])) := by
  obtain ⟨h0, h1⟩ := (notReady_iff a).1 ha
  refine (poll_call hw hs c (k + 1) (n + 2) a.1 a.2.1 a.2.2 q calls).trans ?_
  rw [if_neg (by simp [h0]), poll_decide hw, if_neg (by simp [h1]), poll_wait hw2 _ _ _ (by omega), List.append_assoc]
  rfl

include hw hs in
/-- Any number of unsuccessful polls that are not the last. -/
theorem poll_many (hw2 : w .waiting = true) (pending q : List PollAnswer) (c k n : Nat) (calls : List Call)
    (ha : pending.all notReady = true) (hc : c + pending.length < 100) :
    runWhile w (n + 3 * pending.length) (pollingAt s c (pending.length + k) (pending ++ q) calls) =
      runWhile w n (pollingAt s (c + pending.length) k q (calls ++ pollCalls h pending)) := by
  induction pending generalizing c calls with
  | nil => simp [pollCalls]
  | cons a p ih =>
    simp only [List.all_cons, Bool.and_eq_true, List.length_cons] at ha hc
    rw [show n + 3 * (a :: p).length = n + 3 * p.length + 3 by simp; omega, List.cons_append,
      show (a :: p).length + k = p.length + k + 1 by simp; omega, poll_one hw hs hw2 _ _ _ _ _ _ ha.1 (by omega),
      ih _ _ ha.2 (by omega)]
    simp [pollCalls, Nat.add_assoc, Nat.add_comm 1]

include hw hs in
/-- The poll that reports ready. -/
theorem poll_ready (c k n av : Nat) (q : List PollAnswer) (calls : List Call) :
    runWhile w (n + 2) (pollingAt s c k ((0, av, 2) :: q) calls) =
      runWhile w n (goTo .receiving (pollingAt s (c + 1) k q (calls ++ [.checkQueueStatus h 0 av 2]))) := by
  refine (poll_call hw hs c k (n + 1) 0 av 2 q calls).trans ?_
  rw [if_neg (by simp), poll_decide hw, if_pos (by decide)]

include hw hs in
/-- The poll whose vendor status is not 0. -/
theorem poll_error (c k n : Nat) (st : Status) (hst : st ≠ 0) (av : Nat) (code : Int) (q : List PollAnswer)
    (calls : List Call) :
    runWhile w (n + 1) (pollingAt s c k ((st, av, code) :: q) calls) =
      runWhile w n (raiseDriver st { pollingAt s (c + 1) k q (calls ++ [.checkQueueStatus h st av code]) with
        qstatus := some code }) := by
  refine (poll_call hw hs c k n st av code q calls).trans ?_
  rw [if_pos hst]

include hw hs in
/-- The 100th poll, unsuccessful. -/
theorem poll_last (hw2 : w .waiting = true) (k n : Nat) (a : PollAnswer) (q : List PollAnswer) (calls : List Call)
    (ha : notReady a = true) :
    runWhile w (n + 3) (pollingAt s 99 (k + 1) (a :: q) calls) =
      runWhile w n (raise .timeoutError none (goTo .waiting (pollingAt s 100 k q
        (calls ++ [.checkQueueStatus h a.1 a.2.1 a.2.2, .sleepMs Config.pollIntervalMs])))) := by
  obtain ⟨h0, h1⟩ := (notReady_iff a).1 ha
  refine (poll_call hw hs 99 (k + 1) (n + 2) a.1 a.2.1 a.2.2 q calls).trans ?_
  rw [if_neg (by simp [h0]), poll_decide hw, if_neg (by simp [h1])]
  refine runWhile_step (fuel := n) hw2 ?_
  rw [phaseStep_waiting rfl, waitCall_returns (polls := 100) (later := k) rfl rfl]
  simp [Config.pollLimit, pollingAt, goTo, record]

end Polling

/-! ## Closing -/

/-- `T.close` that returns, whatever it answers (R126, R127). -/
theorem closeCall_returns {s : State} {st : Status} {cs : List Status} (hp : s.phase = .closing)
    (hq : s.transport.closes = st :: cs) :
    closeCall s = .next (goIdle { s with
      isOpen := false, handle := none, closeErr := st,
      draws := if s.handle = none then s.draws + 1 else s.draws,
      err := if st ≠ 0 ∧ s.err = .none then .driverError else s.err,
      errInfo := if st ≠ 0 ∧ s.err = .none then some (.status st) else s.errInfo,
      bytesWritten := if st ≠ 0 ∧ s.err = .none then none else s.bytesWritten,
      rdata := if st ≠ 0 ∧ s.err = .none then none else s.rdata,
      transport := { s.transport with closes := cs }, calls := s.calls ++ [.close (closeHandle s) st] }) := by
  obtain ⟨cf, di, hnd, opn, pa, op, da, ra, ln, pl, si, ss, er, ei, ce, bw, rd, ph, pc, sx, tx, rx, qs, sc, sf, sd, wc,
    ck, dr, rq, ⟨tc, td, top, tcl, tt, tf, tw, tq, trd⟩, clk, cl⟩ := s
  cases hq; cases hp
  by_cases h0 : st = 0 <;> by_cases he : er = .none <;>
    simp [closeCall, callClose, closeHandle, sessionClosed, record, goIdle, raiseDriver, raise, closeDue, recordError,
      h0, he]

/-- The close call ends the operation. -/
theorem close_run {w : Phase → Bool} (hw : w .closing = true) (hw2 : w .idle = false) (n : Nat) {s : State}
    {st : Status} {cs : List Status} (hp : s.phase = .closing) (hq : s.transport.closes = st :: cs) :
    runWhile w (n + 1) s = .next (goIdle { s with
      isOpen := false, handle := none, closeErr := st,
      draws := if s.handle = none then s.draws + 1 else s.draws,
      err := if st ≠ 0 ∧ s.err = .none then .driverError else s.err,
      errInfo := if st ≠ 0 ∧ s.err = .none then some (.status st) else s.errInfo,
      bytesWritten := if st ≠ 0 ∧ s.err = .none then none else s.bytesWritten,
      rdata := if st ≠ 0 ∧ s.err = .none then none else s.rdata,
      transport := { s.transport with closes := cs }, calls := s.calls ++ [.close (closeHandle s) st] }) := by
  rw [runWhile_step (by rw [hp]; exact hw) ((phaseStep_closing hp).trans (closeCall_returns hp hq)), runWhile_stop _ hw2]

/-! ## The parts of a transaction -/

variable {w : Phase → Bool} {s : State} {h : Handle}

theorem openCall_opens {index : Nat} {os : List (Status × Handle)} (hp : s.phase = .opening)
    (hd : s.setTimeoutsDue = false) (ho : s.isOpen = false) (hi : s.devIndex = some index)
    (hq : s.transport.opens = (0, h) :: os) :
    phaseStep s = .next { s with
      isOpen := true, handle := some h, setTimeoutsDue := true, transport := { s.transport with opens := os },
      calls := s.calls ++ [.openDevice index 0 h] } := by
  obtain ⟨cf, di, hnd, opn, pa, op, da, ra, ln, pl, si, ss, er, ei, ce, bw, rd, ph, pc, sx, tx, rx, qs, sc, sf, sd, wc,
    ck, dr, rq, ⟨tc, td, top, tcl, tt, tf, tw, tq, trd⟩, clk, cl⟩ := s
  cases hp; cases hd; cases ho; cases hi; cases hq
  simp [phaseStep, openCall, openSessionCall, openPrimitive, callOpen, record]

theorem openCall_setsTimeouts {ts : List Status} (hp : s.phase = .opening)
    (hd : s.setTimeoutsDue = true) (hh : s.handle = some h) (hq : s.transport.timeouts = 0 :: ts) :
    phaseStep s = .next { s with
      phase := .build, setTimeoutsDue := false, transport := { s.transport with timeouts := ts },
      calls := s.calls ++ [.setTimeouts h s.params.readTimeoutMs s.params.writeTimeoutMs 0] } := by
  obtain ⟨cf, di, hnd, opn, pa, op, da, ra, ln, pl, si, ss, er, ei, ce, bw, rd, ph, pc, sx, tx, rx, qs, sc, sf, sd, wc,
    ck, dr, rq, ⟨tc, td, top, tcl, tt, tf, tw, tq, trd⟩, clk, cl⟩ := s
  cases hp; cases hd; cases hh; cases hq
  simp [phaseStep, openCall, openSessionCall, setTimeoutsPrimitive, callSetTimeouts, record, goTo, State.readTimeoutMs,
    State.writeTimeoutMs]

theorem openCall_fails {index : Nat} {st : Status} {os : List (Status × Handle)} (hp : s.phase = .opening)
    (hd : s.setTimeoutsDue = false) (ho : s.isOpen = false) (hi : s.devIndex = some index)
    (hq : s.transport.opens = (st, h) :: os) (hst : st ≠ 0) :
    phaseStep s = .next (raiseDriver st { s with
      transport := { s.transport with opens := os }, calls := s.calls ++ [.openDevice index st h] }) := by
  obtain ⟨cf, di, hnd, opn, pa, op, da, ra, ln, pl, si, ss, er, ei, ce, bw, rd, ph, pc, sx, tx, rx, qs, sc, sf, sd, wc,
    ck, dr, rq, ⟨tc, td, top, tcl, tt, tf, tw, tq, trd⟩, clk, cl⟩ := s
  cases hp; cases hd; cases ho; cases hi; cases hq
  simp [phaseStep, openCall, openSessionCall, openPrimitive, callOpen, record, hst]

theorem openCall_timeoutsFail {st : Status} {ts : List Status} (hp : s.phase = .opening)
    (hd : s.setTimeoutsDue = true) (hh : s.handle = some h) (hq : s.transport.timeouts = st :: ts) (hst : st ≠ 0) :
    phaseStep s = .next (raiseDriver st { s with
      setTimeoutsDue := false, transport := { s.transport with timeouts := ts },
      calls := s.calls ++ [.setTimeouts h s.params.readTimeoutMs s.params.writeTimeoutMs st] }) := by
  obtain ⟨cf, di, hnd, opn, pa, op, da, ra, ln, pl, si, ss, er, ei, ce, bw, rd, ph, pc, sx, tx, rx, qs, sc, sf, sd, wc,
    ck, dr, rq, ⟨tc, td, top, tcl, tt, tf, tw, tq, trd⟩, clk, cl⟩ := s
  cases hp; cases hd; cases hh; cases hq
  simp [phaseStep, openCall, openSessionCall, setTimeoutsPrimitive, callSetTimeouts, record, hst, State.readTimeoutMs,
    State.writeTimeoutMs]

theorem open_run (hw : w .opening = true) {index : Nat} {os : List (Status × Handle)} {ts : List Status} (n : Nat)
    (hp : s.phase = .opening) (hd : s.setTimeoutsDue = false) (ho : s.isOpen = false) (hi : s.devIndex = some index)
    (hq : s.transport.opens = (0, h) :: os) (ht : s.transport.timeouts = 0 :: ts) :
    runWhile w (n + 2) s = runWhile w n { s with
      phase := .build, isOpen := true, handle := some h,
      transport := { s.transport with opens := os, timeouts := ts },
      calls := s.calls ++
        [.openDevice index 0 h, .setTimeouts h s.params.readTimeoutMs s.params.writeTimeoutMs 0] } := by
  rw [runWhile_step (fuel := n + 1) (by rw [hp]; exact hw) (openCall_opens hp hd ho hi hq)]
  refine (runWhile_step (fuel := n) (by simpa [hp] using hw)
    (openCall_setsTimeouts (h := h) (ts := ts) (by exact hp) rfl rfl (by exact ht))).trans ?_
  simp [hd]

/-- A request frame is the request's body with its checksum. -/
theorem requestFrame_eq_some {frame : List Byte} :
    requestFrame s = some frame ↔ ∃ body, requestBody s = .ok body ∧ withChecksum body = frame := by
  unfold requestFrame
  cases requestBody s <;> simp [Except.toOption]

theorem buildCall_loads {frame : List Byte} (hp : s.phase = .build) (hf : requestFrame s = some frame) :
    phaseStep s = .next { s with
      txbuf := some frame, phase := .flushing, checksum := some (sum8 frame.dropLast) } := by
  obtain ⟨body, hb, rfl⟩ := requestFrame_eq_some.1 hf
  rw [phaseStep_build hp]
  simp [buildCall, hb, loadRequest, computeSum8, withChecksum]

theorem flushCall_returns {st : Status} {fs : List Status} (hp : s.phase = .flushing) (hs : SessionOpen s h)
    (hq : s.transport.flushes = st :: fs) :
    let s1 := { s with transport := { s.transport with flushes := fs }, calls := s.calls ++ [.flushBuffers h st] }
    phaseStep s = .next (if st ≠ 0 then raiseDriver st s1 else goTo .transmitting s1) := by
  obtain ⟨cf, di, hnd, opn, pa, op, da, ra, ln, pl, si, ss, er, ei, ce, bw, rd, ph, pc, sx, tx, rx, qs, sc, sf, sd, wc,
    ck, dr, rq, ⟨tc, td, top, tcl, tt, tf, tw, tq, trd⟩, clk, cl⟩ := s
  obtain ⟨rfl, rfl⟩ := hs
  cases hp; cases hq
  simp [phaseStep, flushCall, withSession, callFlushBuffers, record]

theorem transmitCall_returns {frame : List Byte} {st : Status} {n : Nat} {ws : List (Status × Nat)}
    (hp : s.phase = .transmitting) (hs : SessionOpen s h) (hf : s.txbuf = some frame)
    (hq : s.transport.writes = (st, n) :: ws) :
    let s1 := { s with transport := { s.transport with writes := ws }, calls := s.calls ++ [.write h frame st n] }
    phaseStep s = .next (if st ≠ 0 then raiseDriver st s1
      else if n ≠ frame.length then raiseIo .transmit frame.length n s1
      else transmitted n s1) := by
  obtain ⟨cf, di, hnd, opn, pa, op, da, ra, ln, pl, si, ss, er, ei, ce, bw, rd, ph, pc, sx, tx, rx, qs, sc, sf, sd, wc,
    ck, dr, rq, ⟨tc, td, top, tcl, tt, tf, tw, tq, trd⟩, clk, cl⟩ := s
  obtain ⟨rfl, rfl⟩ := hs
  cases hp; cases hf; cases hq
  simp [phaseStep, transmitCall, withSession, callWrite, record]

theorem receiveCall_returns {k : Nat} {st : Status} {bytes : List Byte} {rs : List (Status × List Byte)}
    (hp : s.phase = .receiving) (hs : SessionOpen s h) (hk : responsePayload s = .ok k)
    (hq : s.transport.reads = (st, bytes) :: rs) :
    let s1 := { s with transport := { s.transport with reads := rs }, calls := s.calls ++ [.read h (9 + k) st bytes] }
    phaseStep s = .next (if st ≠ 0 then raiseDriver st s1
      else if bytes.length ≠ 9 + k then raiseIo .receive (9 + k) bytes.length s1
      else { s1 with rxbuf := some bytes, phase := .checking }) := by
  rw [phaseStep_receiving hp]
  simp only [receiveResponse, hk, receiveCall, Config.respOverhead]
  rw [withSession_open hs.handle hs.session, callRead_some h (9 + k) hq]
  by_cases h0 : st = 0 <;> by_cases h1 : bytes.length = 9 + k <;> simp [record, h0, h1]

/-- The close sequence of an open session, for both ways of its best-effort open (R126). -/
theorem closeSequence_run (hw : w .reopening = true) (hw2 : w .closing = true) (hw3 : w .idle = false)
    {x : Exchange} {index : Nat} {os : List (Status × Handle)} {cs : List Status} (n : Nat) (hp : s.phase = .reopening)
    (hs : SessionOpen s x.handle) (hd : s.setTimeoutsDue = false) (hi : s.devIndex = some index)
    (hq : s.transport.closes = x.close :: cs) (ho : s.transport.opens = x.reopens s.params.reopenInClose ++ os) :
    runWhile w (n + 2) s = .next (goIdle { s with
      isOpen := false, handle := none, closeErr := x.close,
      err := if x.close ≠ 0 ∧ s.err = .none then .driverError else s.err,
      errInfo := if x.close ≠ 0 ∧ s.err = .none then some (.status x.close) else s.errInfo,
      bytesWritten := if x.close ≠ 0 ∧ s.err = .none then none else s.bytesWritten,
      rdata := if x.close ≠ 0 ∧ s.err = .none then none else s.rdata,
      transport := { s.transport with opens := os, closes := cs },
      calls := s.calls ++ x.closing s.params.reopenInClose index }) := by
  cases hm : s.params.reopenInClose with
  | viaFlag =>
    have hos : s.transport.opens = os := by simpa [hm, Exchange.reopens] using ho
    rw [runWhile_step (fuel := n + 1) (t := goTo .closing s) (by rw [hp]; exact hw)
      (by simp [phaseStep, hp, reopenCall, hm, openSessionCall, hd, hs.session])]
    refine (close_run (s := goTo .closing s) (st := x.close) (cs := cs) hw2 hw3 n rfl hq).trans ?_
    simp [goIdle, goTo, closeHandle, hs.handle, Exchange.closing, ← hos]
  | always =>
    have hos : s.transport.opens = x.reopen :: os := by simpa [hm, Exchange.reopens] using ho
    by_cases h0 : x.reopen.1 = 0
    · rw [runWhile_step (fuel := n + 1) (t := { s with
          phase := .closing, handle := some x.reopen.2, transport := { s.transport with opens := os },
          calls := s.calls ++ [.openDevice index 0 x.reopen.2] }) (by rw [hp]; exact hw)
        (by simp [phaseStep, hp, reopenCall, hm, openPrimitive, hi, callOpen, hos, h0, record, goTo, hs.session])]
      refine (close_run (s := { s with
          phase := .closing, handle := some x.reopen.2, transport := { s.transport with opens := os },
          calls := s.calls ++ [.openDevice index 0 x.reopen.2] }) (st := x.close) (cs := cs) hw2 hw3 n rfl hq).trans ?_
      simp [goIdle, closeHandle, Exchange.closing, h0]
    · rw [runWhile_step (fuel := n + 1) (t := { s with
          phase := .closing, transport := { s.transport with opens := os },
          calls := s.calls ++ [.openDevice index x.reopen.1 x.reopen.2] }) (by rw [hp]; exact hw)
        (by simp [phaseStep, hp, reopenCall, hm, openPrimitive, hi, callOpen, hos, h0, record, goTo])]
      refine (close_run (s := { s with
          phase := .closing, transport := { s.transport with opens := os },
          calls := s.calls ++ [.openDevice index x.reopen.1 x.reopen.2] }) (st := x.close) (cs := cs) hw2 hw3 n rfl
        hq).trans ?_
      simp [goIdle, closeHandle, hs.handle, Exchange.closing, h0]

/-- An error in a body: the close sequence follows by itself (R126, R127, R214). -/
theorem abort_run (hw : w .reopening = true) (hw2 : w .closing = true) (hw3 : w .idle = false)
    {x : Exchange} {index : Nat} {e : ErrorCode} {info : Option ErrorInfo} {os : List (Status × Handle)}
    {cs : List Status} (n : Nat) (hs : SessionOpen s x.handle) (ht : isTransaction s = true)
    (hi : s.devIndex = some index) (he : s.err = .none) (hne : e ≠ .none)
    (hq : s.transport.closes = x.close :: cs) (ho : s.transport.opens = x.reopens s.params.reopenInClose ++ os) :
    runWhile w (n + 2) (raise e info s) = .next (goIdle { s with
      isOpen := false, handle := none, closeErr := x.close, err := e, errInfo := info, bytesWritten := none,
      rdata := none, transport := { s.transport with opens := os, closes := cs },
      calls := s.calls ++ x.closing s.params.reopenInClose index }) := by
  have hdue : closeDue s = true := by simp [closeDue, ht, hs.session]
  rw [raise_due _ _ _ hdue]
  refine (closeSequence_run (x := x) (index := index) (os := os) (cs := cs) hw hw2 hw3 n rfl
    ⟨by simpa [enterClose] using hs.session, by simpa [enterClose] using hs.handle⟩ rfl
    (by simpa [enterClose] using hi) (by simpa [enterClose] using hq) (by simpa [enterClose] using ho)).trans ?_
  simp [goIdle, enterClose, recordError, he, hne]

end Sys2Proof.Machine
end

