-- ==== Sys2Proof/Tests/Slice0.lean ====
section
/-! SUPPORT. Tests. Expected results are the reference vectors of spec/95_test_vectors.md and the worked examples of the
rules; a witness shows values that meet all hypotheses of a statement together. -/

namespace Sys2Proof.Tests

open Sys2Proof.Machine

/-! ## Small states -/

def h1 : Handle := ⟨1⟩

def h2 : Handle := ⟨2⟩

/-- The reset block before a transport. -/
def unconfigured (t : Transport) : State := { State.reset with transport := t }

/-- A block that has selected device 0, before a transport and a clock that returns. -/
def configured (t : Transport) : State := { State.reset with configured := true, devIndex := some 0, transport := t, clock := 100 }

/-- The same in the session of `WR 0x20, 0x05, [01]` (frame V-W1), where its body starts. -/
def session (t : Transport) : State :=
  { configured t with
    isOpen := true, handle := some h1, phase := .build, op := some .writeRegisters, devAddr := some 0x20#8,
    regAddr := some 0x05#8, payload := some [0x01#8] }

/-- Frame V-W1. -/
def frameW1 : List Byte := [0xEF, 0xEF, 0x00, 0x05, 0xF0, 0x20, 0x05, 0x01, 0xF9]

/-- Response V-A1. -/
def ackedW1 : List Byte := [0xEF, 0xEF, 0x00, 0x05, 0xF0, 0x20, 0x05, 0xE0, 0xD8]

/-- Response V-A2. -/
def nakW1 : List Byte := [0xEF, 0xEF, 0x00, 0x05, 0xF0, 0x20, 0x05, 0xE1, 0xD9]

/-- The session after the request has gone out, before the first poll. -/
def polling (t : Transport) : State :=
  { session t with phase := .polling, writeCount := some 9, pollCnt := some 0 }

/-- The session with a response received. -/
def checking (bytes : List Byte) : State :=
  { session Transport.empty with phase := .checking, writeCount := some 9, pollCnt := some 1, rxbuf := some bytes }

/-- A transport for one exchange that opens as `h1`: its polls, the count of its `write`, its response. -/
def exchange (q : List PollAnswer) (written : Nat) (response : List Byte) : Transport :=
  { Transport.empty with
    opens := [(0, h1)], timeouts := [0], flushes := [0], writes := [(0, written)], queueStatus := q,
    reads := [(0, response)], closes := [0] }

/-- A transport that answers the count and the serial fields. -/
def devices (serials : List Str) : Transport :=
  { Transport.empty with counts := [(0, serials.length)], descriptors := serials.map fun v => ((0 : Status), v) }

/-- The result is a next state with the property. -/
def holds (r : Result) (f : State → Bool) : Bool :=
  match r with
  | .next s => f s
  | .fault _ => false
  | .refused _ => false

/-- The result is this refusal. -/
def refusedWith (r : Result) (e : Refusal) : Bool :=
  match r with
  | .next _ => false
  | .fault _ => false
  | .refused e2 => decide (e2 = e)

/-! ## WellFormed: a term for each check, refused by it -/

theorem test_wf_accepts : (Instr.writeRegisters 0 255 [0, 255]).wf = true ∧ (Instr.readRegisters 255 0 65535).wf = true ∧
    (Instr.receive 9).wf = true ∧ (Instr.receive 65544).wf = true := by decide

theorem test_wf_write_addresses : (Instr.writeRegisters 256 0 []).wf = false ∧ (Instr.writeRegisters (-1) 0 []).wf = false ∧
    (Instr.writeRegisters 0 256 []).wf = false ∧ (Instr.writeRegisters 0 (-1) []).wf = false := by decide

theorem test_wf_write_payload_element : (Instr.writeRegisters 0 0 [1, 256]).wf = false ∧
    (Instr.writeRegisters 0 0 [-1, 1]).wf = false := by decide

theorem test_wf_write_payload_length (p : List Int) (h : p.length = 65532) : (Instr.writeRegisters 0 0 p).wf = false :=
  Bool.and_eq_false_iff.2 (Or.inr (by rw [h]; rfl))

theorem test_wf_read : (Instr.readRegisters 256 0 0).wf = false ∧ (Instr.readRegisters 0 (-1) 0).wf = false ∧
    (Instr.readRegisters 0 0 65536).wf = false ∧ (Instr.readRegisters 0 0 (-1)).wf = false := by decide

theorem test_wf_response_header : (Instr.responseToWrite [0, 0, 0, 0, 0, 0] 0).wf = false ∧
    (Instr.responseToRead [0, 0, 0, 0, 0, 0, 0, 0] [] 0).wf = false := by decide

theorem test_wf_response_payload (p : List Byte) (h : p.length = 65536) :
    (Instr.responseToRead [0, 0, 0, 0, 0, 0, 0] p 0).wf = false := by
  simp only [Instr.wf, h]
  rfl

theorem test_wf_receive : (Instr.receive 8).wf = false ∧ (Instr.receive 65545).wf = false := by decide

/-! ## Decoding: frames written out from the offset tables of R80, R81 and R82 -/

theorem test_decode_write : (decode .request [0xEF, 0xEF, 0x00, 0x06, 0xF0, 0x40, 0x10, 0xA5, 0x5A, 0x23]).toOption
    = some (.writeRegisters 0x40 0x10 [0xA5, 0x5A]) := by decide

theorem test_decode_read : (decode .request [0xEF, 0xEF, 0x00, 0x06, 0xF1, 0x30, 0x00, 0x01, 0x00, 0x06]).toOption
    = some (.readRegisters 0x30 0x00 256) := by decide

theorem test_decode_response_to_write : (decode .responseToWrite ackedW1).toOption
    = some (.responseToWrite [0xEF, 0xEF, 0x00, 0x05, 0xF0, 0x20, 0x05] 0xD8) := by decide

theorem test_decode_response_to_read :
    (decode (.responseToRead 3) [0xEF, 0xEF, 0x00, 0x08, 0xF1, 0x12, 0x34, 0xE0, 0x0A, 0x0B, 0x0C, 0x1E]).toOption
    = some (.responseToRead [0xEF, 0xEF, 0x00, 0x08, 0xF1, 0x12, 0x34] [0x0A, 0x0B, 0x0C] 0x1E) := by decide

/-- The rejection of bytes that are no frame. -/
def rejection (r : Except DecodeError Instr) : Option DecodeError :=
  match r with
  | .ok _ => none
  | .error e => some e

theorem test_reject_too_short : rejection (decode .request [0xEF, 0xEF, 0x00, 0x04, 0xF0]) = some .tooShort := by decide

theorem test_reject_sync :
    rejection (decode .request [0xEF, 0xEE, 0x00, 0x04, 0xF0, 0x01, 0x10, 0xE2]) = some .badSync := by decide

theorem test_reject_length :
    rejection (decode .request [0xEF, 0xEF, 0x00, 0x05, 0xF0, 0x01, 0x10, 0xE4]) = some .badLength ∧
    rejection (decode .responseToWrite [0, 0, 0, 0, 0, 0, 0, 0xE0]) = some .badLength := by decide

theorem test_reject_checksum :
    rejection (decode .request [0xEF, 0xEF, 0x00, 0x04, 0xF0, 0x01, 0x10, 0xE4]) = some .badChecksum := by decide

theorem test_reject_command :
    rejection (decode .request [0xEF, 0xEF, 0x00, 0x04, 0xF2, 0x01, 0x10, 0xE5]) = some (.unknownCommand 0xF2) := by decide

theorem test_reject_ack : rejection (decode .responseToWrite nakW1) = some (.badAck 0xE1) := by decide

/-- The four rows with match bits, and V-R6 as a whole 80-bit word. -/
theorem test_table_words : decodeTableWord 40 0xEFEF0000F0 = some (.writeRegisters 0 0 []) ∧
    decodeTableWord 80 0xEFEF0006F10110010200 = some (.readRegisters 0x01 0x10 258) ∧
    decodeTableWord 72 0xE000 = some (.responseToWrite [0, 0, 0, 0, 0, 0, 0] 0) ∧
    decodeTableWord 64 0xE0 = some (.responseToRead [0, 0, 0, 0, 0, 0, 0] [] 0) := by decide

theorem test_table_word_rejected : decodeTableWord 40 0xEFEF0000F2 = none ∧ decodeTableWord 72 0xE100 = none := by decide

/-- A placed request runs first: it is accepted and waits for the transport. -/
theorem test_placed_request : holds (step (State.reset.withFetchWord 40 0xEFEF0000F0)) (fun t => t.phase = .opening) =
    true := by decide

/-- A placed response runs first: it is taken, the close sequence is due. -/
theorem test_placed_response : holds (step (State.reset.withFetchWord 64 0xE0))
    (fun t => t.phase = .reopening ∧ t.rdata = some []) = true := by decide

/-! ## One step of each instruction -/

/-- V-W1 and V-H5: program P1. -/
theorem test_write_registers : holds
    (exec (.writeRegisters 0x20 0x05 [0x01]) (configured (exchange [(0, 0, 0), (0, 9, 2)] 9 ackedW1)))
    (fun t => t.err = .none ∧ t.bytesWritten = some 9 ∧ t.phase = .idle ∧ t.isOpen = false ∧ t.calls =
      [.openDevice 0 0 h1, .setTimeouts h1 500 1000 0, .flushBuffers h1 0, .write h1 frameW1 0 9,
       .checkQueueStatus h1 0 0 0, .sleepMs 1, .checkQueueStatus h1 0 9 2, .read h1 9 0 ackedW1, .close h1 0]) = true := by
  decide

/-- V-A2: the acknowledgement mismatch. -/
theorem test_write_registers_nak : holds
    (exec (.writeRegisters 0x20 0x05 [0x01]) (configured (exchange [(0, 9, 2)] 9 nakW1)))
    (fun t => t.err.code = 6 ∧ t.errInfo = some (.ackCheckFailed 0xE1) ∧ t.bytesWritten = none ∧ t.closeErr = 0) = true := by
  decide

/-- V-A5. -/
theorem test_read_registers : holds
    (exec (.readRegisters 0x12 0x34 3) (configured (exchange [(0, 12, 2)] 10
      [0xEF, 0xEF, 0x00, 0x08, 0xF1, 0x12, 0x34, 0xE0, 0x0A, 0x0B, 0x0C, 0x1E])))
    (fun t => t.err = .none ∧ t.rdata = some [0x0A, 0x0B, 0x0C] ∧ t.isOpen = false) = true := by decide

/-- Program P3: 105 transport calls, 100 sleeps. -/
theorem test_read_registers_timeout : holds
    (exec (.readRegisters 0x12 0x34 3) (configured (exchange (List.replicate 100 (0, 0, 0)) 10 [])))
    (fun t => t.err.code = 5 ∧ t.rdata = none ∧ t.calls.length = 205 ∧ t.calls.countP isSleep = 100) = true := by
  decide +kernel

/-- V-A3: header and trailer are not examined. -/
theorem test_response_to_write : holds
    (exec (.responseToWrite [0, 0, 0, 0, 0, 0, 0] 0) (checking [0, 0, 0, 0, 0, 0, 0, 0xE0, 0]))
    (fun t => t.bytesWritten = some 9 ∧ t.phase = .reopening ∧ t.rxbuf = none) = true := by decide

/-- V-A10: a payload byte equal to the acknowledgement is data. -/
theorem test_response_to_read : holds
    (exec (.responseToRead [0, 0, 0, 0, 0, 0, 0] [0xE0] 0)
      { checking [] with op := some .readRegisters, length := some 1, payload := none })
    (fun t => t.rdata = some [0xE0] ∧ t.bytesWritten = none) = true := by decide

/-- V-C2: the largest legal index. -/
theorem test_select_index : holds (exec (.selectIndex 1) (unconfigured (devices [[], []])))
    (fun t => t.configured ∧ t.devIndex = some 1 ∧ t.isOpen = false ∧ t.calls.length = 1) = true := by decide

/-- V-C3 and V-C4. -/
theorem test_select_index_range :
    holds (exec (.selectIndex 2) (unconfigured (devices [[], []]))) (fun t => t.err.code = 3 ∧ !t.configured) = true ∧
    holds (exec (.selectIndex (-1)) (unconfigured (devices [[], []]))) (fun t => t.err.code = 3 ∧ t.devIndex = none)
      = true := by decide

/-- V-C9: `x`, `Dup `, `dUP`; the lowest match wins, all three are read. -/
theorem test_select_serial : holds
    (exec (.selectSerial [0x44, 0x55, 0x50])
      (unconfigured (devices [[0x78], [0x44, 0x75, 0x70, 0x20], [0x64, 0x55, 0x50]])))
    (fun t => t.devIndex = some 1 ∧ t.calls.length = 4 ∧ t.configured) = true := by decide

/-- V-C14: inner white space is kept. -/
theorem test_select_serial_inner_space : holds
    (exec (.selectSerial [0x61, 0x62]) (unconfigured (devices [[0x61, 0x20, 0x62]])))
    (fun t => t.err.code = 2 ∧ !t.configured) = true := by decide

/-- R110's example: the step returns 2. -/
theorem test_enumerate : holds (exec .enumerate (unconfigured (devices [[], []])))
    (fun t => t.scanCount = some 2 ∧ t.configured = false) = true := by decide

/-- V-C18. -/
theorem test_discard : holds (exec .discard { configured Transport.empty with err := .ioError, closeErr := 4 })
    (fun t => t = { State.reset with clock := 100 }) = true := by decide

/-- V-S4 and R125's example. -/
theorem test_open_session :
    holds (exec .openSession (configured (exchange [] 9 []))) (fun t => t.handle = some h1 ∧ t.isOpen ∧ t.phase = .build ∧
      t.calls = [.openDevice 0 0 h1, .setTimeouts h1 500 1000 0]) = true ∧
    holds (exec .openSession (configured { exchange [] 9 [] with timeouts := [5] }))
      (fun t => t.err.code = 1 ∧ t.errInfo = some (.status 5) ∧ t.isOpen) = true := by decide

/-- R126's example, and V-S7: the new handle is the one closed. -/
theorem test_close_session :
    holds (exec .closeSession (session { Transport.empty with closes := [0] }))
      (fun t => t.isOpen = false ∧ t.handle = none ∧ t.closeErr = 0 ∧ t.calls = [.close h1 0]) = true ∧
    holds (exec .closeSession { session { Transport.empty with opens := [(0, h2)], closes := [0] } with
        params := { Params.default with reopenInClose := .always } })
      (fun t => t.calls = [.openDevice 0 0 h2, .close h2 0]) = true := by decide

/-- V-S5: the first error wins. -/
theorem test_transact : holds
    (exec .transact { session { exchange [] 9 [] with flushes := [7], closes := [9] } with
      phase := .idle, isOpen := false, handle := none })
    (fun t => t.err.code = 1 ∧ t.errInfo = some (.status 7) ∧ t.closeErr = 9 ∧ t.phase = .idle) = true := by decide

/-- V-K6. -/
theorem test_sum8 : holds (exec (.sum8 [0xEF, 0xEF, 0x00, 0x05, 0xF0, 0x20, 0x05, 0x01]) State.reset)
    (fun t => t.checksum = some 0xF9) = true := by decide

/-- V-K1, V-K2, V-K3. -/
theorem test_sum8_wraps : sum8 [] = 0 ∧ sum8 [0xFF, 0x01] = 0 ∧ sum8 [0x80, 0x80] = 0 := by decide

/-- V-H1. -/
theorem test_flush : holds (exec .flush (session { Transport.empty with flushes := [7], writes := [(0, 9)] }))
    (fun t => t.err.code = 1 ∧ t.errInfo = some (.status 7) ∧ t.calls = [.flushBuffers h1 7]) = true := by decide

/-- V-H3 and V-H4. -/
theorem test_transmit :
    holds (exec .transmit { session { Transport.empty with writes := [(0, 10)] } with txbuf := some frameW1 })
      (fun t => t.err.code = 4 ∧ t.errInfo = some (.counts .transmit 9 10)) = true ∧
    holds (exec .transmit { session { Transport.empty with writes := [(12, 9)] } with txbuf := some frameW1 })
      (fun t => t.err.code = 1 ∧ t.errInfo = some (.status 12)) = true := by decide

/-- R174's example: three polls, two waits. -/
theorem test_poll : holds
    (exec .poll (session { Transport.empty with queueStatus := [(0, 0, 0), (0, 0, 0), (0, 9, 2)] }))
    (fun t => t.pollCnt = some 3 ∧ t.calls.countP isSleep = 2 ∧ t.phase = .receiving) = true := by decide

/-- V-H7: ready exactly at the 100th poll. -/
theorem test_poll_last : holds
    (exec .poll (session { Transport.empty with queueStatus := List.replicate 99 (0, 0, 0) ++ [(0, 9, 2)] }))
    (fun t => t.err = .none ∧ t.phase = .receiving ∧ t.calls.countP isSleep = 99) = true := by decide +kernel

/-- V-H15 and V-H16. -/
theorem test_receive :
    holds (exec (.receive 9) (session { Transport.empty with reads := [(0, ackedW1 ++ [0])] }))
      (fun t => t.err.code = 4 ∧ t.errInfo = some (.counts .receive 9 10)) = true ∧
    holds (exec (.receive 9) (session { Transport.empty with reads := [(14, ackedW1)] }))
      (fun t => t.errInfo = some (.status 14)) = true := by decide

/-- R176's examples. -/
theorem test_ack_check :
    holds (exec .ackCheck (checking [0, 0, 0, 0, 0, 0, 0, 0xE0, 0])) (fun t => t.phase = .checking ∧ t.err = .none) = true ∧
    holds (exec .ackCheck (checking nakW1)) (fun t => t.err.code = 6 ∧ t.phase = .reopening) = true := by decide

/-- V-E3: "count before ack; offset 7 is never read from a short buffer". -/
theorem test_ackCheck_short_buffer : holds (exec .ackCheck (checking [0, 0, 0]))
    (fun t => t.err.code = 4 ∧ t.errInfo = some (.counts .receive 9 3) ∧ t.phase = .reopening) = true := by decide

/-! ## Good states -/

theorem test_configured_is_good (t : Transport) (q : List Instr) : Inv { configured t with requests := q } where
  handle := rfl
  index := rfl
  payload := fun _ h => by simp [configured, State.reset] at h
  results := ⟨trivial, fun h => absurd rfl h, fun h => absurd rfl h, fun h => absurd rfl h⟩
  phase := ⟨rfl, ⟨rfl, rfl, rfl⟩, ⟨rfl, rfl, rfl, rfl, rfl, rfl, rfl⟩, fun _ => ⟨nofun, nofun⟩⟩

theorem test_unconfigured_is_good (t : Transport) : Inv (unconfigured t) where
  handle := rfl
  index := rfl
  payload := fun _ h => by simp [unconfigured, State.reset] at h
  results := ⟨trivial, fun h => absurd rfl h, fun h => absurd rfl h, fun h => absurd rfl h⟩
  phase := ⟨rfl, ⟨rfl, rfl, rfl⟩, ⟨rfl, rfl, rfl, rfl, rfl, rfl, rfl⟩, fun _ => ⟨nofun, nofun⟩⟩

theorem test_polling_is_good (t : Transport) : Inv (polling t) where
  handle := rfl
  index := rfl
  payload := fun p h => by
    obtain rfl : [0x01#8] = p := by simpa [polling, session] using h
    exact ⟨show 1 ≤ 246 by decide, show 1 ≤ 65531 by decide⟩
  results := ⟨trivial, fun h => absurd rfl h, fun h => absurd rfl h, fun h => absurd rfl h⟩
  phase := by
    refine ⟨⟨⟨rfl, rfl, ⟨rfl, rfl, rfl⟩⟩, ⟨rfl, rfl, rfl, rfl, rfl⟩, rfl, rfl⟩, rfl, rfl, rfl, 0, rfl, Or.inl ⟨rfl, ?_⟩⟩
    decide

/-- The block waiting after its first poll, before a clock of which `k` calls return. -/
def waiting (k : Nat) : State := { polling Transport.empty with phase := .waiting, pollCnt := some 1, clock := k }

theorem test_waiting_is_good (k : Nat) : Inv (waiting k) where
  handle := rfl
  index := rfl
  payload := fun p h => by
    obtain rfl : [0x01#8] = p := by simpa [waiting, polling, session] using h
    exact ⟨show 1 ≤ 246 by decide, show 1 ≤ 65531 by decide⟩
  results := ⟨trivial, fun h => absurd rfl h, fun h => absurd rfl h, fun h => absurd rfl h⟩
  phase := by
    refine ⟨⟨⟨rfl, rfl, ⟨rfl, rfl, rfl⟩⟩, ⟨rfl, rfl, rfl, rfl, rfl⟩, rfl, rfl⟩, rfl, rfl, rfl, rfl, 1, rfl, ?_⟩
    decide

theorem test_session_is_open (t : Transport) : SessionOpen (session t) h1 := ⟨rfl, rfl⟩

theorem test_configured_is_ready (t : Transport) : Ready (configured t) 0 := ⟨rfl, rfl, rfl, rfl, rfl⟩

/-- The state of a next-state result. -/
def stateOf (r : Result) : State :=
  match r with
  | .next s => s
  | .fault _ => State.reset
  | .refused _ => State.reset

/-! ## Witnesses: the hypotheses of each statement, met together -/

theorem test_witness_DecodeOfEncodeIsTheInstruction :
    (Instr.writeRegisters 255 0 [255]).wf = true ∧ (encode (.writeRegisters 255 0 [255])).isSome = true ∧
    (Instr.readRegisters 0 255 65535).wf = true ∧ (encode (.readRegisters 0 255 65535)).isSome = true ∧
    (encode (.responseToWrite [0, 0, 0, 0, 0, 0, 0] 1)).isSome = true ∧
    (encode (.responseToRead [0, 0, 0, 0, 0, 0, 0] [1] 2)).isSome = true := by decide

theorem test_witness_EncodeOfDecodeIsTheFrame :
    (decode .request frameW1).toOption = some (.writeRegisters 0x20 5 [1]) ∧
    (decode (.responseToRead 0) ackedW1).toOption = some (.responseToRead (ackedW1.take 7) [] 0xD8) ∧
    (0 : Nat) < 65536 := by decide

theorem test_witness_WriteRequestLayout : ([] : List Byte).length ≤ 65531 ∧
    ∃ p : List Byte, p.length ≤ 65531 ∧ p.length = 65531 :=
  ⟨by decide, List.replicate 65531 0#8, by rw [List.length_replicate], List.length_replicate⟩

theorem test_witness_ChecksumLaws : [1#8, 2#8].Perm [2#8, 1#8] := List.Perm.swap ..

/-- 251 and 252 bytes on either side of a non-zero high byte; 65531 the last that fits, 65532 the first that does not. -/
theorem test_witness_WriteLengthFieldNeverWraps :
    hi8 (251 + Config.lenBias) = 0 ∧ hi8 (252 + Config.lenBias) = 1 ∧
    (∃ p : List Byte, p.length ≤ 65531 ∧ p.length = 65531) ∧
    (∃ (p : List Int) (s : State), 65531 < p.length ∧ s.phase = .idle ∧ s.configured = true) :=
  ⟨by decide, by decide, ⟨List.replicate 65531 0#8, by rw [List.length_replicate], List.length_replicate⟩,
    List.replicate 65532 0, configured Transport.empty, by rw [List.length_replicate]; decide, rfl, rfl⟩

theorem test_witness_CommandByteNamesTheRequest :
    ([] : List Byte).length ≤ 65531 ∧ 0xEF#8 ≠ 0xF0#8 ∧ 0xEF#8 ≠ 0xF1#8 ∧ 0xF2#8 ≠ 0xF0#8 ∧ 0xF2#8 ≠ 0xF1#8 := by decide

theorem test_witness_ResponseDecoding :
    (ackedW1.length = 9 + 0 ∧ ackedW1[7]? = some 0xE0#8) ∧
    (nakW1.length = 9 + 0 ∧ nakW1[7]? = some 0xE1#8 ∧ 0xE1#8 ≠ 0xE0#8) ∧
    ((ackedW1 ++ [5]).length = 9 + 1 ∧ (ackedW1 ++ [5])[7]? = some 0xE0#8) := by decide

theorem test_witness_HardwiredRegistersNeverChange : ∃ s t : State, step s = .next t ∧ callStep s = .next t ∧ t ≠ s :=
  ⟨polling (exchange [(0, 0, 0)] 9 []), _, rfl, rfl, by decide⟩

/-- A failing flush (V-H1) and one that succeeds. -/
theorem test_witness_FlushMakesOneCall : ∀ st : Status, st = 7 ∨ st = 0 → ∃ (s : State) (h : Handle) (rest : List Status),
    SessionOpen s h ∧ s.transport.flushes = st :: rest :=
  fun st _ => ⟨session { Transport.empty with flushes := [st, 0] }, h1, [0], ⟨rfl, rfl⟩, rfl⟩

/-- Each clause: a status, a count one too small, the right count. -/
theorem test_witness_TransmitMakesOneCall : ∀ a : Status × Nat, a ∈ [((12 : Status), 9), (0, 8), (0, 9)] →
    ∃ (s : State) (h : Handle), SessionOpen s h ∧ s.txbuf = some frameW1 ∧ s.transport.writes = [a] :=
  fun a _ => ⟨{ session { Transport.empty with writes := [a] } with txbuf := some frameW1 }, h1, ⟨rfl, rfl⟩, rfl, rfl⟩

/-- Each clause: a status, a byte too few, the right count; `k` is 9 and 65544. -/
theorem test_witness_ReceiveMakesOneCall : ∀ a : Status × List Byte, a ∈ [((14 : Status), ackedW1), (0, []), (0, ackedW1)] →
    ∃ (s : State) (h : Handle), SessionOpen s h ∧ s.transport.reads = [a] ∧ (Instr.receive 9).wf ∧ (Instr.receive 65544).wf :=
  fun a _ => ⟨session { Transport.empty with reads := [a] }, h1, ⟨rfl, rfl⟩, rfl, by decide, by decide⟩

theorem test_witness_AckCheckTestsOffsetSeven :
    ((checking ackedW1).rxbuf = some ackedW1 ∧ ackedW1[7]? = some 0xE0#8) ∧
    ((checking nakW1).rxbuf = some nakW1 ∧ nakW1[7]? = some 0xE1#8 ∧ 0xE1#8 ≠ 0xE0#8) := by decide

/-- No unsuccessful poll, and 99 of them; from the body's start, and from where `TRANSMIT` leaves the block. -/
theorem test_witness_PollEndsAtTheFirstReady : ∀ n, n = 0 ∨ n = 99 →
    ∀ at0 : Transport → State, at0 = session ∨ at0 = polling →
    ∃ (s : State) (pending : List PollAnswer) (later : Nat), SessionOpen s h1 ∧ pollStarts s = true ∧
      s.clock = pending.length + later ∧ pending.all notReady = true ∧ pending.length < 100 ∧ pending.length = n ∧
      s.transport.queueStatus = pending ++ [(0, 9, 2)] := by
  intro n hn at0 h0
  refine ⟨at0 { Transport.empty with queueStatus := List.replicate n (0, 0, 1) ++ [(0, 9, 2)] },
    List.replicate n (0, 0, 1), 100 - n, ?_, ?_, ?_, by simp [notReady, isReady, Config.readyCode], ?_, by simp, ?_⟩
  · rcases h0 with rfl | rfl <;> exact ⟨rfl, rfl⟩
  · rcases h0 with rfl | rfl <;> rfl
  · rw [List.length_replicate, show n + (100 - n) = 100 by omega]
    rcases h0 with rfl | rfl <;> rfl
  · rw [List.length_replicate]; omega
  · rcases h0 with rfl | rfl <;> rfl

theorem test_witness_PollTimesOutAfterOneHundred : ∃ (s : State) (pending : List PollAnswer),
    SessionOpen s h1 ∧ pollStarts s = true ∧ s.clock = 100 + 0 ∧ pending.all notReady = true ∧ pending.length = 100 ∧
    s.transport.queueStatus = pending ++ [(0, 9, 2)] :=
  ⟨polling { Transport.empty with queueStatus := List.replicate 100 (0, 0, 0) ++ [(0, 9, 2)] },
    List.replicate 100 (0, 0, 0), ⟨rfl, rfl⟩, rfl, rfl, by decide, by decide, rfl⟩

/-- The first poll fails, and the 100th; from the body's start, and from where `TRANSMIT` leaves the block. -/
theorem test_witness_PollStopsAtAVendorError : ∀ n, n = 0 ∨ n = 99 →
    ∀ at0 : Transport → State, at0 = session ∨ at0 = polling →
    ∃ (s : State) (pending : List PollAnswer) (later : Nat), SessionOpen s h1 ∧ pollStarts s = true ∧
      s.clock = pending.length + later ∧ pending.all notReady = true ∧ pending.length < 100 ∧ pending.length = n ∧
      s.transport.queueStatus = pending ++ [(11, 0, 2)] := by
  intro n hn at0 h0
  refine ⟨at0 { Transport.empty with queueStatus := List.replicate n (0, 0, 1) ++ [(11, 0, 2)] },
    List.replicate n (0, 0, 1), 100 - n, ?_, ?_, ?_, by simp [notReady, isReady, Config.readyCode], ?_, by simp, ?_⟩
  · rcases h0 with rfl | rfl <;> exact ⟨rfl, rfl⟩
  · rcases h0 with rfl | rfl <;> rfl
  · rw [List.length_replicate, show n + (100 - n) = 100 by omega]
    rcases h0 with rfl | rfl <;> rfl
  · rw [List.length_replicate]; omega
  · rcases h0 with rfl | rfl <;> rfl

/-- From the body's start, where `TRANSMIT` leaves the block, and in `POLLING` without a count. -/
theorem test_witness_PollIsBounded : pollStarts (session (exchange [(0, 0, 0), (0, 9, 2)] 9 [])) = true ∧
    pollStarts (polling (exchange [] 9 [])) = true ∧ pollStarts { polling (exchange [] 9 []) with pollCnt := none } = true ∧
    ∃ t : State, exec .poll (session (exchange [(0, 0, 0), (0, 9, 2)] 9 [])) = .next t ∧ t.calls ≠ [] :=
  ⟨rfl, rfl, rfl, _, rfl, by decide⟩

theorem test_witness_OpenSessionOpensAndSetsTimeouts :
    ((session Transport.empty).setTimeoutsDue = false ∧ (session Transport.empty).isOpen = true) ∧
    (∃ (s : State), s.setTimeoutsDue = false ∧ s.isOpen = false ∧ s.devIndex = some 0 ∧ s.transport.opens = [(0, h1)] ∧
      s.transport.timeouts = [0]) :=
  ⟨⟨rfl, rfl⟩, configured (exchange [] 9 []), rfl, rfl, rfl, rfl, rfl⟩

/-- The parameters of the close sequence. -/
def closing (closeAfterFailure : Bool) (mode : ReopenMode) : Params :=
  { Params.default with closeAfterOpenFailure := closeAfterFailure, reopenInClose := mode }

/-- An idle block with these parameters. -/
def ready (p : Params) (t : Transport) : State := { configured t with params := p }

theorem test_ready_is_ready (p : Params) (t : Transport) : Ready (ready p t) 0 := ⟨rfl, rfl, rfl, rfl, rfl⟩

/-- `OPEN_SESSION` as an instruction: each of the two failures. A transaction, each way out: V-S2, V-S3 with each answer
of the second `open` in each mode, V-S4 in each mode. -/
theorem test_witness_OpenSessionFailures :
    (∃ (s : State), s.setTimeoutsDue = false ∧ s.isOpen = false ∧ s.devIndex = some 0 ∧ s.transport.opens = [(3, h1)]) ∧
    (∃ (s : State), s.setTimeoutsDue = false ∧ s.isOpen = false ∧ s.devIndex = some 0 ∧ s.transport.opens = [(0, h1)] ∧
      s.transport.timeouts = [5]) ∧
    (∃ (s : State), Ready s 0 ∧ s.handle = none ∧ (loaded (.writeRegisters 1 16 []) s).isSome = true ∧
      s.params.closeAfterOpenFailure = false ∧ s.transport.opens = [((3 : Status), h1)]) ∧
    (∀ (st2 : Status) (mode : ReopenMode), ∃ (s : State), Ready s 0 ∧ s.handle = none ∧
      (loaded (.readRegisters 1 16 0) s).isSome = true ∧ s.params.closeAfterOpenFailure = true ∧
      s.params.reopenInClose = mode ∧ s.transport.opens = [((3 : Status), h1), (st2, h2)] ∧ s.transport.closes = [2] ∧
      s.transport.timeouts = [0]) ∧
    (∀ (mode : ReopenMode), ∃ (s : State), Ready s 0 ∧ s.handle = none ∧
      (loaded (.writeRegisters 1 16 []) s).isSome = true ∧ s.params.reopenInClose = mode ∧
      s.transport.opens = [((0 : Status), h1), (6, h2)] ∧ s.transport.timeouts = [5] ∧ s.transport.closes = [0]) ∧
    (3 : Status) ≠ 0 ∧ (5 : Status) ≠ 0 :=
  ⟨⟨configured { Transport.empty with opens := [(3, h1)] }, rfl, rfl, rfl, rfl⟩,
    ⟨configured { exchange [] 9 [] with timeouts := [5] }, rfl, rfl, rfl, rfl, rfl⟩,
    ⟨configured { Transport.empty with opens := [(3, h1)] }, ⟨rfl, rfl, rfl, rfl, rfl⟩, rfl, rfl, rfl, rfl⟩,
    fun st2 mode => ⟨ready (closing true mode)
      { Transport.empty with opens := [(3, h1), (st2, h2)], closes := [2], timeouts := [0] },
      test_ready_is_ready _ _, rfl, rfl, rfl, rfl, rfl, rfl, rfl⟩,
    fun mode => ⟨ready (closing false mode)
      { Transport.empty with opens := [(0, h1), (6, h2)], closes := [0], timeouts := [5] },
      test_ready_is_ready _ _, rfl, rfl, rfl, rfl, rfl, rfl⟩,
    by decide, by decide⟩

theorem test_witness_CloseSessionClosesOnce : ∃ (s : State), SessionOpen s h1 ∧ s.setTimeoutsDue = false ∧
    s.phase ≠ .closing ∧ s.params.reopenInClose = .viaFlag ∧ s.transport.closes = [9] :=
  ⟨session { Transport.empty with closes := [9] }, ⟨rfl, rfl⟩, rfl, by decide, rfl, rfl⟩

/-- The session, re-opened at the close. -/
def reopening (t : Transport) : State := { session t with params := { Params.default with reopenInClose := .always } }

theorem test_witness_CloseSessionReopensAlways : ∀ st : Status, st = 0 ∨ st = 6 → ∃ (s : State), SessionOpen s h1 ∧
    s.phase ≠ .closing ∧ s.params.reopenInClose = .always ∧ s.devIndex = some 0 ∧ s.transport.opens = [(st, h2)] ∧
    s.transport.closes = [0] :=
  fun st _ => ⟨reopening { Transport.empty with opens := [(st, h2)], closes := [0] }, ⟨rfl, rfl⟩, nofun, rfl, rfl, rfl,
    rfl⟩

/-- In each mode. -/
theorem test_witness_CloseAfterTwoFailedOpens : ∀ mode : ReopenMode, ∃ (s : State), s.params.reopenInClose = mode ∧
    s.isOpen = false ∧ s.handle = none ∧ s.setTimeoutsDue = false ∧ s.phase ≠ .closing ∧ s.err ≠ .none ∧
    s.devIndex = some 0 ∧ s.transport.opens = [((3 : Status), h1)] ∧ s.transport.closes = [2] :=
  fun mode => ⟨{ ready (closing true mode) { Transport.empty with opens := [(3, h1)], closes := [2] } with
      phase := .reopening, err := .driverError },
    rfl, rfl, rfl, rfl, nofun, nofun, rfl, rfl, rfl⟩

theorem test_witness_EnumerateReturnsTheCount : (unconfigured (devices [[], []])).transport.counts = [(0, 2)] := rfl

/-- The index on either side of both ends of the range, and a failed call. -/
theorem test_witness_SelectIndexConfigures : (∀ st : Status, ∃ s : State, s.phase = .idle ∧ s.configured = false ∧
    s.scanCount = none ∧ s.transport.counts = [(st, 2)]) ∧
    indexInRange (-1) 2 = false ∧ indexInRange 0 2 = true ∧ indexInRange 1 2 = true ∧ indexInRange 2 2 = false :=
  ⟨fun st => ⟨unconfigured { Transport.empty with counts := [(st, 2)] }, rfl, rfl, rfl, rfl⟩, by decide⟩

/-- No device, and a match at the last of two. -/
theorem test_witness_SelectSerialScansEveryDevice : (∀ values : List Str, ∃ s : State, s.phase = .idle ∧
    s.configured = false ∧ s.scanCount = none ∧ s.transport.counts = [(0, values.length)] ∧
    s.transport.descriptors = values.map fun v => ((0 : Status), v)) ∧
    lowestMatch [0x63] 0 [] = none ∧ lowestMatch [0x63] 0 [[0x61], [0x43, 0x20]] = some 1 :=
  ⟨fun values => ⟨unconfigured (devices values), rfl, rfl, rfl, rfl, rfl⟩, by decide⟩

/-- V-C12: the count call fails. V-C11: the second of two descriptor calls fails, although the first matched. -/
theorem test_witness_SelectSerialStopsAtAVendorError :
    (∃ s : State, s.phase = .idle ∧ s.configured = false ∧ s.scanCount = none ∧ s.transport.counts = [((13 : Status), 0)]) ∧
    (∃ s : State, s.phase = .idle ∧ s.configured = false ∧ s.scanCount = none ∧ [[0x43]].length < 2 ∧
      s.transport.counts = [(0, 2)] ∧ s.transport.descriptors = [((0 : Status), [0x43]), (21, [0x42])]) ∧
    (13 : Status) ≠ 0 ∧ (21 : Status) ≠ 0 :=
  ⟨⟨unconfigured { Transport.empty with counts := [(13, 0)] }, rfl, rfl, rfl, rfl⟩,
    ⟨unconfigured { Transport.empty with counts := [(0, 2)], descriptors := [(0, [0x43]), (21, [0x42])] }, rfl, rfl, rfl,
      by decide, rfl, rfl⟩, by decide, by decide⟩

/-- The ends of the white space range and of the letters; a core with inner white space (V-C13), and an empty one. -/
theorem test_witness_NormalisationTrimsAndFolds :
    [0x09, 0x0D, 0x20].all isSpace = true ∧ isSpace 0x08 = false ∧ isSpace 0x0E = false ∧
    [64, 65, 90, 91].map lowerChar = [64, 97, 122, 91] ∧
    (([0x41, 0x20, 0x42] : Str).head? = some 0x41 ∧ isSpace 0x41 = false ∧ ([0x41, 0x20, 0x42] : Str).getLast? = some 0x42 ∧
      isSpace 0x42 = false) ∧ ([] : Str).head? = none ∧ ([] : Str).getLast? = none := by decide

theorem test_witness_FailedSelectLeavesUnconfigured : ∃ (s t : State), Inv s ∧ s.phase = .idle ∧
    exec (.selectIndex 2) s = .next t ∧ t.phase = .idle ∧ t.err ≠ .none :=
  ⟨unconfigured (devices [[], []]), stateOf (exec (.selectIndex 2) (unconfigured (devices [[], []]))),
    test_unconfigured_is_good _, rfl, rfl, by decide, by decide⟩

theorem test_witness_DiscardResetsEveryRegister : (configured Transport.empty).phase = .idle := rfl

theorem test_witness_ConfigurationGatesTheOperations :
    ((unconfigured Transport.empty).phase = .idle ∧ (unconfigured Transport.empty).configured = false) ∧
    ((configured Transport.empty).phase = .idle ∧ (configured Transport.empty).configured = true) ∧
    isTransaction { unconfigured Transport.empty with op := some .readRegisters } = true := by decide

theorem test_witness_OverlappingOperationsAreRefused :
    (polling Transport.empty).phase ≠ .idle ∧ Instr.discard.hostOp.isSome = true := by decide

/-- An idle block with the operands of a write loaded. -/
def loadedWrite (payload : List Byte) : State :=
  { configured Transport.empty with
    op := some .writeRegisters, devAddr := some 1#8, regAddr := some 2#8, payload := some payload }

/-- `TRANSACT` refuses what its parameter does not allow, and an operand that holds no value, before any call. -/
theorem test_transact_operands :
    (exec .transact { loadedWrite [1, 2] with params := { Params.default with maxWritePayload := 1 } }
      = .refused .unencodable) ∧
    exec .transact { loadedWrite [] with payload := none } = .refused (.noValue .payload) := ⟨rfl, rfl⟩

/-- Each operand on either side of both ends of its range, and a payload one longer than the parameter allows; the same
payload loaded for `TRANSACT`, one longer than the length field can carry under a parameter that would allow it, and
each operand register without a value, under a payload that is too long as well. -/
theorem test_witness_UnencodableOperandsAreRefused :
    ((configured Transport.empty).phase = .idle ∧ (configured Transport.empty).configured = true) ∧
    [-1, 256].all (fun v => !fitsByte v) = true ∧ [0, 255].all fitsByte = true ∧
    [-1, 65536].all (fun v => !fitsHalf v) = true ∧ [0, 65535].all fitsHalf = true ∧
    (configured Transport.empty).params.maxWritePayload < (List.replicate 247 (0 : Int)).length ∧
    ((loadedWrite []).phase = .idle ∧ (loadedWrite []).configured = true ∧
      (loadedWrite []).params.maxWritePayload < (List.replicate 247 (0 : Byte)).length) ∧
    (∃ s : State, s.phase = .idle ∧ s.configured = true ∧ s.op = some .writeRegisters ∧ s.devAddr = some 1#8 ∧
      s.regAddr = some 2#8 ∧ s.payload = some (List.replicate 65532 (0 : Byte)) ∧ s.params.maxWritePayload = 70000 ∧
      65531 < (List.replicate 65532 (0 : Byte)).length) ∧
    (∃ s : State, s.phase = .idle ∧ s.configured = true ∧ s.op = some .writeRegisters ∧ s.devAddr = none ∧
      s.payload = some (List.replicate 65532 (0 : Byte))) ∧
    [{ loadedWrite [] with devAddr := none }, { loadedWrite [] with regAddr := none },
      { loadedWrite [] with payload := none }, { loadedWrite [] with op := some .readRegisters }].all
        (fun s => decide (s.phase = .idle) && s.configured && isTransaction s &&
          (s.devAddr.isNone || s.regAddr.isNone || s.op == some .writeRegisters && s.payload.isNone ||
            s.op == some .readRegisters && s.length.isNone)) = true :=
  ⟨by decide, by decide, by decide, by decide, by decide, by rw [List.length_replicate]; decide,
    ⟨rfl, rfl, by rw [List.length_replicate]; decide⟩,
    ⟨{ loadedWrite (List.replicate 65532 0) with params := { Params.default with maxWritePayload := 70000 } },
      rfl, rfl, rfl, rfl, rfl, rfl, rfl, by rw [List.length_replicate]; decide⟩,
    ⟨{ loadedWrite (List.replicate 65532 0) with devAddr := none }, rfl, rfl, rfl, rfl, rfl⟩, by decide⟩

theorem test_witness_ResponseToWriteGivesTheCount : (checking ackedW1).op = some .writeRegisters ∧
    (checking ackedW1).writeCount = some 9 ∧ (ackedW1.take 7).length = 7 ∧
    ({ checking ackedW1 with writeCount := none } : State).payload = some [0x01#8] := by decide

/-- The checking state of a read of one byte. -/
def checkingRead : State := { checking [] with op := some .readRegisters, length := some 1, payload := none }

/-- One byte, and none. -/
theorem test_witness_ResponseToReadGivesThePayload : checkingRead.op = some .readRegisters ∧
    checkingRead.length = some 1 ∧ (ackedW1.take 7).length = 7 ∧ [0xE0#8].length = (1 : Half).toNat ∧
    ([] : List Byte).length ≠ (1 : Half).toNat := by decide

/-- One exchange in which everything goes well, with `n` unsuccessful polls, for a request of `w` bytes. -/
def goodExchange (n w : Nat) (response : List Byte) : Exchange :=
  { handle := h1, flush := 0, write := (0, w), pending := List.replicate n (0, 0, 1), last := (0, 0, 2),
    read := (0, response), reopen := (6, h2), close := 0, later := Transport.empty,
    laterClock := 100 - n }

/-- One byte after one unsuccessful poll (V-W1), closed by the flag; no payload (V-S6) at the first poll, the close sequence
re-opening. -/
theorem test_witness_WriteTransactionCompletes :
    (∃ s : State, Ready s 0 ∧ writeOperands s.params 0x20 5 [1] = some (0x20, 5, [1]) ∧
      s.transport = (goodExchange 1 9 ackedW1).transport s.params.reopenInClose ∧
      s.clock = (goodExchange 1 9 ackedW1).clock ∧ (goodExchange 1 9 ackedW1).succeeds 9 9) ∧
    (∃ s : State, Ready s 0 ∧ s.params.reopenInClose = .always ∧ writeOperands s.params 1 16 [] = some (1, 16, []) ∧
      s.transport = (goodExchange 0 8 ackedW1).transport s.params.reopenInClose ∧
      s.clock = (goodExchange 0 8 ackedW1).clock ∧ (goodExchange 0 8 ackedW1).succeeds 8 9) :=
  ⟨⟨configured ((goodExchange 1 9 ackedW1).transport .viaFlag), ⟨rfl, rfl, rfl, rfl, rfl⟩, by decide, rfl, rfl,
      ⟨rfl, rfl, by decide, by decide, rfl, rfl, rfl, rfl, rfl, rfl⟩⟩,
    ⟨ready (closing false .always) ((goodExchange 0 8 ackedW1).transport .always), test_ready_is_ready _ _, rfl,
      by decide, rfl, rfl, ⟨rfl, rfl, by decide, by decide, rfl, rfl, rfl, rfl, rfl, rfl⟩⟩⟩

/-- A read of one byte, the close sequence re-opening. -/
theorem test_witness_ReadTransactionCompletes : ∃ s : State, Ready s 0 ∧
    readOperands 0x20 5 1 = some (0x20, 5, 1) ∧
    s.transport = (goodExchange 0 10 (ackedW1 ++ [0])).transport s.params.reopenInClose ∧
    s.clock = (goodExchange 0 10 (ackedW1 ++ [0])).clock ∧
    (goodExchange 0 10 (ackedW1 ++ [0])).succeeds 10 (9 + (1 : Half).toNat) :=
  ⟨ready (closing false .always) ((goodExchange 0 10 (ackedW1 ++ [0])).transport .always),
    test_ready_is_ready _ _, by decide, rfl, rfl,
    ⟨rfl, rfl, by decide, by decide, rfl, rfl, rfl, rfl, rfl, rfl⟩⟩

/-- The idle block whose operand registers hold `WR 0x20, 0x05, [01]`. -/
def armed (t : Transport) : State := { session t with phase := .idle, isOpen := false, handle := none }

/-- The idle block whose operand registers hold `RD 0x20, 0x05, 1`. -/
def armedRead (t : Transport) : State :=
  { armed t with op := some .readRegisters, payload := none, length := some 1 }

/-- A write and a read. -/
theorem test_witness_TransactWrapsTheBody :
    (∃ s : State, Ready s 0 ∧ requestFrame s = some frameW1 ∧ responseLength s = some 9 ∧
      s.transport = (goodExchange 0 9 ackedW1).transport s.params.reopenInClose ∧
      s.clock = (goodExchange 0 9 ackedW1).clock ∧ (goodExchange 0 9 ackedW1).succeeds frameW1.length 9) ∧
    (∃ (s : State) (frame : List Byte), Ready s 0 ∧ requestFrame s = some frame ∧ responseLength s = some 10 ∧
      s.transport = (goodExchange 2 10 (ackedW1 ++ [0])).transport s.params.reopenInClose ∧
      s.clock = (goodExchange 2 10 (ackedW1 ++ [0])).clock ∧
      (goodExchange 2 10 (ackedW1 ++ [0])).succeeds frame.length 10) :=
  ⟨⟨armed ((goodExchange 0 9 ackedW1).transport .viaFlag), ⟨rfl, rfl, rfl, rfl, rfl⟩, by decide, rfl, rfl, rfl,
      ⟨rfl, rfl, by decide, by decide, rfl, rfl, rfl, rfl, rfl, rfl⟩⟩,
    ⟨armedRead ((goodExchange 2 10 (ackedW1 ++ [0])).transport .viaFlag), buildR 0x20 5 1, ⟨rfl, rfl, rfl, rfl, rfl⟩, rfl,
      rfl, rfl, rfl, ⟨rfl, rfl, by decide, by decide, rfl, rfl, rfl, rfl, rfl, rfl⟩⟩⟩

/-- An exchange for each row 3 to 10 of R143, one without an error in the body, and the close failing each time
(row 11). -/
def failingExchanges : List (Exchange × ErrorCode × Option ErrorInfo) :=
  let x := { goodExchange 0 9 ackedW1 with close := 9 }
  [({ x with flush := 7 }, .driverError, some (.status 7)),
   ({ x with write := (12, 8) }, .driverError, some (.status 12)),
   ({ x with write := (0, 8) }, .ioError, some (.counts .transmit 9 8)),
   ({ x with last := (11, 0, 2) }, .driverError, some (.status 11)),
   ({ goodExchange 99 9 ackedW1 with last := (0, 9, 3), laterClock := 0 }, .timeoutError, none),
   ({ x with read := (14, ackedW1) }, .driverError, some (.status 14)),
   ({ x with read := (0, [0xEF]) }, .ioError, some (.counts .receive 9 1)),
   ({ x with read := (0, nakW1) }, .protocolError, some (.ackCheckFailed 0xE1)),
   (x, .none, none)]

theorem test_failing_exchanges : failingExchanges.all (fun e => decide (e.1.bodyError 9 9 = e.2)) = true := by
  decide +kernel

theorem test_witness_FirstErrorIsTheOutcome : ∀ e, e ∈ failingExchanges →
    e.1.polls ∧ e.1.clock = 100 ∧
    ∃ s : State, Ready s 0 ∧ s.transport = e.1.transport s.params.reopenInClose ∧ s.clock = 100 ∧
      (∃ ls, loaded (.writeRegisters 0x20 5 [1]) s = some ls ∧ requestFrame ls = some frameW1 ∧
        responseLength ls = some 9) ∧
      (∃ ls, loaded (.readRegisters 0x20 5 1) s = some ls ∧ (requestFrame ls).isSome = true ∧
        responseLength ls = some 10) ∧
      (∃ ls, loaded .transact s = some ls ∧ requestFrame ls = some frameW1 ∧ responseLength ls = some 9) := by
  intro e he
  have hp : e.1.polls ∧ e.1.clock = 100 := by
    simp only [failingExchanges, List.mem_cons, List.not_mem_nil, or_false] at he
    rcases he with rfl | rfl | rfl | rfl | rfl | rfl | rfl | rfl | rfl <;>
      exact ⟨⟨by decide, by decide, by decide⟩, by decide⟩
  have hf : some (buildW 0x20#8 0x05#8 [0x01#8]) = some frameW1 := by decide
  exact ⟨hp.1, hp.2, armed (e.1.transport .viaFlag), ⟨rfl, rfl, rfl, rfl, rfl⟩, rfl, rfl, ⟨_, rfl, hf, rfl⟩,
    ⟨_, rfl, rfl, rfl⟩, ⟨_, rfl, hf, rfl⟩⟩

theorem test_witness_TransactionTimesOut : ∃ (s : State) (x : Exchange), Ready s 0 ∧
    (∃ ls, loaded (.writeRegisters 0x20 5 [1]) s = some ls ∧ requestFrame ls = some frameW1) ∧
    s.transport = x.transport s.params.reopenInClose ∧ s.clock = x.clock ∧ x.flush = 0 ∧ x.write = (0, frameW1.length) ∧
    x.pending.all notReady = true ∧ x.pending.length = 99 ∧ notReady x.last = true :=
  ⟨configured ({ goodExchange 99 9 [] with last := (0, 0, 3) }.transport .viaFlag),
    { goodExchange 99 9 [] with last := (0, 0, 3), laterClock := 0 }, ⟨rfl, rfl, rfl, rfl, rfl⟩, ⟨_, rfl, by decide⟩, rfl,
    by decide, rfl, rfl, by decide, by decide, by decide⟩

/-- Each way out of `raise`: the first error, a later one; the session open, a failed `open` with the parameter true. -/
theorem test_witness_RaiseAborts :
    ((session Transport.empty).err = .none ∧ closeDue (session Transport.empty) = true) ∧
    ({ session Transport.empty with err := .ioError } : State).err ≠ .none ∧
    closeDue { armed Transport.empty with
      phase := .opening, params := { Params.default with closeAfterOpenFailure := true } } = true ∧
    closeDue { armed Transport.empty with phase := .opening } = false := by decide

theorem test_witness_OperationsRaiseOnlyTheirErrors :
    (∃ s t : State, Inv s ∧ s.phase = .idle ∧ exec (.selectIndex 2) s = .next t) ∧
    (∃ s t : State, Inv s ∧ s.phase = .idle ∧ exec (.writeRegisters 1 2 []) s = .next t) :=
  ⟨⟨unconfigured (devices []), _, test_unconfigured_is_good _, rfl, rfl⟩,
    ⟨configured Transport.empty, _, test_configured_is_good _ [], rfl, rfl⟩⟩

theorem test_witness_StepKeepsTheInvariant : ∃ s t : State, Inv s ∧ step s = .next t ∧ callStep s = .next t ∧ t ≠ s :=
  ⟨polling (exchange [(0, 0, 0)] 9 []), _, test_polling_is_good _, rfl, rfl, by decide⟩

/-- Waiting for a call of the transport, waiting for the clock, and going on. -/
theorem test_witness_OperationsAlwaysGoOn :
    (Inv (polling Transport.empty) ∧ (polling Transport.empty).phase ≠ .idle ∧ awaiting (polling Transport.empty) = true) ∧
    (Inv (waiting 0) ∧ (waiting 0).phase ≠ .idle ∧ awaiting (waiting 0) = true) ∧
    (Inv (waiting 1) ∧ awaiting (waiting 1) = false) :=
  ⟨⟨test_polling_is_good _, by decide, by decide⟩, ⟨test_waiting_is_good _, by decide, by decide⟩,
    test_waiting_is_good _, by decide⟩

theorem test_witness_PhasesFollowTheOrder : ∃ s t : State, Inv s ∧ callStep s = .next t ∧ t.phase ≠ s.phase :=
  ⟨{ configured Transport.empty with requests := [.writeRegisters 1 2 []] }, _, test_configured_is_good _ _, rfl,
    by decide⟩

theorem test_witness_OneCallAtATime : ∃ s t : State, callStep s = .next t ∧ t.calls ≠ s.calls :=
  ⟨polling (exchange [(0, 0, 0)] 9 []), _, rfl, by decide⟩

theorem test_witness_OnlySelectAndDiscardConfigure : ∃ s t : State, callStep s = .next t ∧ t.configured ≠ s.configured :=
  ⟨{ configured Transport.empty with requests := [.discard] }, _, rfl, by decide⟩

theorem test_witness_TransactionsAreBounded : Inv (configured (exchange [] 9 [])) ∧
    (configured (exchange [] 9 [])).phase = .idle ∧ (Instr.readRegisters 0 0 0).hostOp = some .readRegisters :=
  ⟨test_configured_is_good _ [], rfl, rfl⟩

theorem test_witness_SelectsAreBounded : Inv (unconfigured (devices [[]])) ∧ (unconfigured (devices [[]])).phase = .idle ∧
    (Instr.selectSerial []).hostOp = some .selectSerial ∧ (unconfigured (devices [[]])).transport.counts = [(0, 1)] :=
  ⟨test_unconfigured_is_good _, rfl, rfl, rfl⟩

/-- Two failing `open` calls, then `close` (V-S3). -/
def failedOpens : Transport := { Transport.empty with opens := [(3, h1), (3, h1)], closes := [2] }

theorem test_ready_is_good (p : Params) (t : Transport) : Inv (ready p t) where
  handle := rfl
  index := rfl
  payload := fun _ h => by simp [ready, configured, State.reset] at h
  results := ⟨trivial, fun h => absurd rfl h, fun h => absurd rfl h, fun h => absurd rfl h⟩
  phase := ⟨rfl, ⟨rfl, rfl, rfl⟩, ⟨rfl, rfl, rfl, rfl, rfl, rfl, rfl⟩, fun _ => ⟨nofun, nofun⟩⟩

/-- A session that opened; and, with the parameter true, one that did not (V-S3). -/
theorem test_witness_OpenAndCloseAreSymmetric :
    (∃ s t : State, Inv s ∧ s.phase = .idle ∧ exec (.writeRegisters 0x20 5 [1]) s = .next t ∧ t.phase = .idle ∧
      t.calls.any isOpened = true) ∧
    (∃ s t : State, Inv s ∧ s.phase = .idle ∧ s.params.closeAfterOpenFailure = true ∧
      exec (.writeRegisters 0x20 5 [1]) s = .next t ∧ t.phase = .idle ∧ t.calls.countP isCloseCall = 1) :=
  ⟨⟨configured (exchange [(0, 0, 2)] 9 nakW1),
      stateOf (exec (.writeRegisters 0x20 5 [1]) (configured (exchange [(0, 0, 2)] 9 nakW1))),
      test_configured_is_good _ [], rfl, rfl, by decide, by decide⟩,
    ⟨ready (closing true .viaFlag) failedOpens,
      stateOf (exec (.writeRegisters 0x20 5 [1]) (ready (closing true .viaFlag) failedOpens)),
      test_ready_is_good _ _, rfl, rfl, rfl, by decide, by decide⟩⟩

/-- `POLL` run by the step without a count in `POLL_CNT` is refused (R21); `POLL` itself starts counting. -/
theorem test_poll_count_needed :
    refusedWith (step { polling (exchange [(0, 9, 2)] 9 []) with pollCnt := none }) (.noValue .pollCnt) = true ∧
    refusedWith (step { waiting 1 with pollCnt := none }) (.noValue .pollCnt) = true ∧
    holds (exec .poll { polling (exchange [(0, 9, 2)] 9 []) with pollCnt := none }) (fun t => t.pollCnt = some 1) = true := by
  decide

/-- U19, D25: a clock call that does not return leaves the block where it is; one that does is recorded. -/
theorem test_clock : holds (step (waiting 0)) (fun t => t = waiting 0) = true ∧
    holds (step (waiting 1)) (fun t => t.phase = .polling ∧ t.clock = 0 ∧ t.calls = [.sleepMs 1]) = true := by decide

theorem test_witness_LaterRequestsDoNotInterfere : (polling Transport.empty).phase ≠ .idle ∧
    (∃ t, step (polling Transport.empty) = .next t) ∧
    (∃ r, step { polling (exchange [(0, 0, 2)] 9 []) with handle := none } = .refused r) :=
  ⟨by decide, ⟨_, rfl⟩, ⟨_, rfl⟩⟩

theorem test_witness_OnlyTheAckByteIsExamined : (checking ackedW1).phase = .checking ∧
    responsePayload (checking ackedW1) = .ok 0 ∧ ackedW1.length = 9 + 0 ∧ [0, 0, 0, 0, 0, 0, 0, 0xE0#8, 0].length = 9 + 0 ∧
    ackedW1[7]? = [0, 0, 0, 0, 0, 0, 0, 0xE0#8, 0][7]? := ⟨rfl, rfl, rfl, rfl, rfl⟩

/-- No request, a host operation, and a row that is none. -/
theorem test_witness_StepRunsTheRequest : (configured Transport.empty).phase = .idle ∧
    (configured Transport.empty).requests = [] ∧
    { configured Transport.empty with requests := [.discard] }.requests = .discard :: [] ∧
    Instr.discard.hostOp.isSome = true ∧ Instr.flush.hostOp = none := ⟨rfl, rfl, rfl, rfl, rfl⟩

theorem test_witness_StepRunsThePhasesMicroStep :
    ({ unconfigured Transport.empty with phase := .enumCount } : State).scanCount = none ∧
    ({ session Transport.empty with phase := .opening } : State).isOpen = true ∧
    responsePayload { session Transport.empty with phase := .receiving } = .ok 0 := ⟨rfl, rfl, rfl⟩

theorem test_witness_StepRunsTheDecodedResponse : (checking ackedW1).phase = .checking ∧
    (checking ackedW1).rxbuf = some ackedW1 ∧ responsePayload (checking ackedW1) = .ok 0 ∧
    ∃ i, decode (responseChannel (checking ackedW1) 0) ackedW1 = .ok i := ⟨rfl, rfl, rfl, _, rfl⟩

theorem test_witness_StepRunsThePlacedWord :
    decodeTableWord 40 0xEFEF0000F0 = some (.writeRegisters 0 0 []) ∧
    (Instr.writeRegisters 0 0 []).hostOp.isSome = true ∧
    decodeTableWord 72 0xE000 = some (.responseToWrite [0, 0, 0, 0, 0, 0, 0] 0) ∧
    (Instr.responseToWrite [0, 0, 0, 0, 0, 0, 0] 0).hostOp = none := by decide

theorem test_witness_CallStepsReachTheMeaning :
    let s : State := { configured (exchange [] 9 []) with requests := [.writeRegisters 0 0 []] }
    s.phase = .idle ∧ s.requests = [.writeRegisters 0 0 []] ∧ (Instr.writeRegisters 0 0 []).hostOp.isSome = true :=
  ⟨rfl, rfl, rfl⟩

end Sys2Proof.Tests
end

section

/-! # Reset: the table of R37 -/

namespace Sys2Proof.Machine

/-- The two timeout registers are hardwired to the parameters (R26), and reset takes the default ones (R7). -/
theorem reset_timeoutRegisters : State.reset.readTimeoutMs = 500 ∧ State.reset.writeTimeoutMs = 1000 := ⟨rfl, rfl⟩

/-- The two poll registers are hardwired in every state (R27). -/
theorem pollRegisters_hardwired (s : State) : s.pollLimit = 100 ∧ s.pollIntervalMs = 1 := ⟨rfl, rfl⟩

/-- Settles O11: the hardwired registers by their rules, every other one from its field of `State.reset`. -/
theorem resetRegisters : Obligations.ResetRegisters := by
  obtain ⟨hread, hwrite⟩ := reset_timeoutRegisters
  obtain ⟨hlimit, hinterval⟩ := pollRegisters_hardwired State.reset
  exact
    ⟨-- `CONFIGURED`, `DEV_INDEX`, `HANDLE`, `OPEN`
     rfl, rfl, rfl, rfl,
     hread, hwrite, hlimit, hinterval,
     -- the operand registers (R28)
     rfl, rfl, rfl, rfl, rfl, rfl, rfl,
     -- the result registers (R29)
     rfl, rfl, rfl, rfl, rfl,
     -- `PHASE` and the internal registers (R30, R32 to R34)
     rfl, rfl, rfl, rfl, rfl, rfl⟩

end Sys2Proof.Machine
end

section

/-! # Frames, offset by offset: the two requests (R80, R81) and the response (R90) -/

namespace Sys2Proof

/-! ## The checksum byte -/

/-- The checksum is the sum of the bytes modulo 256 (R170). -/
theorem sum8_toNat (bytes : List Byte) : (sum8 bytes).toNat = (bytes.map BitVec.toNat).sum % 256 := by
  induction bytes with
  | nil => rfl
  | cons b bytes ih => simp [sum8_cons, ih]

theorem withChecksum_getElem?_of_lt {body : List Byte} {i : Nat} (h : i < body.length) :
    (withChecksum body)[i]? = body[i]? :=
  List.getElem?_append_left h

@[simp] theorem withChecksum_getElem?_length (body : List Byte) :
    (withChecksum body)[body.length]? = some (sum8 body) :=
  List.getElem?_concat_length

@[simp] theorem take_withChecksum (body : List Byte) : (withChecksum body).take body.length = body :=
  List.take_left

/-- The byte after the body of a request is the sum of the bytes before it modulo 256 (R87, R170). -/
theorem withChecksum_trailer (body : List Byte) :
    ∃ c, (withChecksum body)[body.length]? = some c ∧
      c.toNat = (((withChecksum body).take body.length).map BitVec.toNat).sum % 256 :=
  ⟨sum8 body, withChecksum_getElem?_length body, by rw [take_withChecksum, sum8_toNat]⟩

/-! ## The bodies of the requests -/

@[simp] theorem bodyW_length (dev reg : Byte) (payload : List Byte) :
    (bodyW dev reg payload).length = 7 + payload.length := by
  rw [bodyW, List.length_append]; rfl

/-- The seven bytes before the payload of a write request (R80). -/
theorem buildW_getElem?_header (dev reg : Byte) (payload : List Byte) {i : Nat} (h : i < 7) :
    (buildW dev reg payload)[i]? =
      [0xEF#8, 0xEF#8, hi8 (payload.length + 4), lo8 (payload.length + 4), 0xF0#8, dev, reg][i]? := by
  rw [buildW, withChecksum_getElem?_of_lt (by rw [bodyW_length]; omega)]
  exact List.getElem?_append_left h

/-- The payload of a write request stands from offset 7 on (R80). -/
theorem buildW_getElem?_payload (dev reg : Byte) {payload : List Byte} {i : Nat} (h : i < payload.length) :
    (buildW dev reg payload)[7 + i]? = payload[i]? := by
  rw [buildW, withChecksum_getElem?_of_lt (by rw [bodyW_length]; omega), bodyW]
  exact (List.getElem?_append_right (Nat.le_add_right 7 i)).trans (by simp)

/-- The nine bytes of a read request before its checksum (R81). -/
theorem bodyR_eq (dev reg : Byte) (n : Half) :
    bodyR dev reg n =
      [0xEF#8, 0xEF#8, 0x00#8, 0x06#8, 0xF1#8, dev, reg, n.extractLsb' 8 8, n.extractLsb' 0 8] := by
  have hhigh : hi8 n.toNat = n.extractLsb' 8 8 := by
    simp [hi8, BitVec.extractLsb', Nat.shiftRight_eq_div_pow]
  have hlow : lo8 n.toNat = n.extractLsb' 0 8 := by simp [lo8, BitVec.extractLsb']
  rw [bodyR, hhigh, hlow]
  rfl

/-- Settles O4: the header and the payload by offset, the length field by `be16_hi_lo`, the trailer as the checksum of
the body. -/
theorem writeRequestLayout : Obligations.WriteRequestLayout := by
  intro dev reg payload hlen frame
  have header {i : Nat} (h : i < 7) := buildW_getElem?_header dev reg payload h
  have htrailer := withChecksum_trailer (bodyW dev reg payload)
  rw [bodyW_length] at htrailer
  refine ⟨buildW_length dev reg payload, header (by decide), header (by decide), ?lengthField,
    header (by decide), header (by decide), header (by decide),
    fun i hi => buildW_getElem?_payload dev reg hi, ?trailer⟩
  case lengthField =>
    exact ⟨_, _, header (by decide), header (by decide), be16_hi_lo (by omega)⟩
  case trailer => rwa [Nat.add_comm payload.length 7]

/-- Settles O5: the nine bytes of the body one by one, and the checksum after them. -/
theorem readRequestLayout : Obligations.ReadRequestLayout := by
  intro dev reg n frame
  have hframe : frame = withChecksum _ := congrArg withChecksum (bodyR_eq dev reg n)
  rw [hframe]
  exact ⟨rfl, rfl, rfl, rfl, rfl, rfl, rfl, rfl, rfl, rfl, withChecksum_trailer _⟩

end Sys2Proof

namespace Sys2Proof.Machine

/-! ## The response -/

theorem drop_ackOffset {bytes : List Byte} {b : Byte} (hb : bytes[7]? = some b) :
    bytes.drop Config.ackOffset = b :: bytes.drop 8 := by
  obtain ⟨h7, hb⟩ := List.getElem?_eq_some_iff.mp hb
  rw [Config.ackOffset, List.drop_eq_getElem_cons h7, hb]

/-- A response of the awaited count whose offset 7 is not the acknowledgement is the illegal encoding of R92. -/
theorem decodeResponse_eq_badAck {n : Nat} {bytes : List Byte} {b : Byte} (hl : bytes.length = 9 + n)
    (hb : bytes[7]? = some b) (hne : b ≠ Config.ack) : decodeResponse n bytes = .error (.badAck b) := by
  have hlength : ¬ bytes.length ≠ Config.respOverhead + n := not_not.mpr hl
  rw [decodeResponse, if_neg hlength, drop_ackOffset hb]
  exact if_pos hne

/-- A response of the awaited count is its header, the byte of offset 7, the payload and the trailer (R82, R90). -/
theorem response_split {n : Nat} {bytes : List Byte} {b : Byte} (hl : bytes.length = 9 + n)
    (hb : bytes[7]? = some b) :
    bytes = bytes.take 7 ++ [b] ++ (bytes.drop 8).take n ++ [(bytes[8 + n]?).getD 0#8] := by
  have hlast : (bytes.drop 8).drop n = [(bytes[8 + n]?).getD 0#8] := by
    rw [List.drop_drop, List.drop_eq_getElem_cons (by omega), List.drop_eq_nil_of_le (by omega),
      List.getElem?_eq_getElem (by omega)]
    rfl
  calc bytes = bytes.take 7 ++ bytes.drop Config.ackOffset := (List.take_append_drop 7 bytes).symm
    _ = bytes.take 7 ++ b :: ((bytes.drop 8).take n ++ (bytes.drop 8).drop n) := by
      rw [drop_ackOffset hb, List.take_append_drop]
    _ = bytes.take 7 ++ [b] ++ (bytes.drop 8).take n ++ [(bytes[8 + n]?).getD 0#8] := by simp [hlast]

/-- Settles O10: a byte other than the acknowledgement is `decodeResponse_eq_badAck`; with the acknowledgement,
`decodeResponse_eq_ok` names the three parts and `response_split` puts them together again. -/
theorem responseDecoding : Obligations.ResponseDecoding := by
  intro n bytes ack hl ha
  constructor
  · intro hne
    simp [decode, decodeResponse_eq_badAck hl ha hne]
  · rintro rfl
    refine ⟨bytes.take 7, (bytes.drop 8).take n, (bytes[8 + n]?).getD 0#8, ?decoded, ?count, ?payload, ?none,
      response_split hl ha⟩
    case decoded => simp [decode, decodeResponse_eq_ok hl ha]
    case count => simp [hl]; omega
    case payload =>
      intro i hi
      rw [List.getElem?_take_of_lt hi, List.getElem?_drop]
    case none =>
      rintro rfl
      exact List.take_zero

end Sys2Proof.Machine
end

section

/-! # Decoding and encoding are inverse (R80 to R92) -/

namespace Sys2Proof

/-! ## The two bytes of a 16-bit field -/

theorem hi8_be16 (hi lo : Byte) : hi8 (be16 hi lo) = hi := by
  apply BitVec.eq_of_toNat_eq
  simp only [hi8, be16, BitVec.toNat_ofNat]
  omega

theorem lo8_be16 (hi lo : Byte) : lo8 (be16 hi lo) = lo := by
  apply BitVec.eq_of_toNat_eq
  simp only [lo8, be16, BitVec.toNat_ofNat]
  omega

theorem be16_lt (hi lo : Byte) : be16 hi lo < 65536 := by
  unfold be16
  omega

/-! ## Requests -/

/-- The bytes of a request before its checksum, by its fields: what stands after the register address is `rest`
(R80, R81). -/
def requestBytes (lenHigh lenLow cmd dev reg : Byte) (rest : List Byte) : List Byte :=
  [Config.sync, Config.sync, lenHigh, lenLow, cmd, dev, reg] ++ rest

theorem bodyW_eq_requestBytes (dev reg : Byte) (payload : List Byte) :
    bodyW dev reg payload =
      requestBytes (hi8 (payload.length + 4)) (lo8 (payload.length + 4)) Config.cmdWrite dev reg payload := rfl

theorem bodyR_eq_requestBytes (dev reg : Byte) (n : Half) :
    bodyR dev reg n = requestBytes (hi8 6) (lo8 6) Config.cmdRead dev reg [hi8 n.toNat, lo8 n.toNat] := rfl

/-- What the decoder makes of the fields of a request whose preamble, length and checksum are right (R88). -/
def readRequest (cmd dev reg c0 : Byte) (rest : List Byte) : Except DecodeError Instr :=
  if cmd = Config.cmdWrite then
    .ok (.writeRegisters (ofByte dev) (ofByte reg) ((c0 :: rest).dropLast.map ofByte))
  else if cmd = Config.cmdRead then
    match rest with
    | [lengthLow, _] => .ok (.readRegisters (ofByte dev) (ofByte reg) (Int.ofNat (be16 c0 lengthLow)))
    | _ => .error .badLength
  else .error (.unknownCommand cmd)

/-- A request whose length field counts its bytes is read by its command byte (R87 to R89). -/
theorem decodeRequest_withChecksum {hi lo cmd dev reg : Byte} {rest : List Byte}
    (hlen : be16 hi lo = rest.length + 4) :
    ∃ c0 cs, c0 :: cs = rest ++ [sum8 (requestBytes hi lo cmd dev reg rest)] ∧
      decodeRequest (withChecksum (requestBytes hi lo cmd dev reg rest)) = readRequest cmd dev reg c0 cs := by
  obtain ⟨c0, cs, hcs⟩ := List.exists_cons_of_ne_nil
    (List.append_ne_nil_of_right_ne_nil rest (List.cons_ne_nil (sum8 (requestBytes hi lo cmd dev reg rest)) []))
  have hbytes : withChecksum (requestBytes hi lo cmd dev reg rest) =
      Config.sync :: Config.sync :: hi :: lo :: cmd :: dev :: reg :: c0 :: cs := by
    rw [← hcs]; rfl
  refine ⟨c0, cs, hcs.symm, ?_⟩
  have hlast := getLast?_withChecksum (requestBytes hi lo cmd dev reg rest)
  have hinit := dropLast_withChecksum (requestBytes hi lo cmd dev reg rest)
  have hcount : (withChecksum (requestBytes hi lo cmd dev reg rest)).length = 4 + be16 hi lo := by
    simp [withChecksum, requestBytes, hlen]; omega
  rw [hbytes] at hlast hinit hcount ⊢
  unfold decodeRequest
  simp only [hinit, hlast, hcount]
  rw [if_neg (by simp), if_neg (by simp), if_neg (by simp)]
  rfl

theorem decodeRequest_buildW {dev reg : Byte} {payload : List Byte} (h : payload.length ≤ 65531) :
    decodeRequest (buildW dev reg payload) =
      .ok (.writeRegisters (ofByte dev) (ofByte reg) (payload.map ofByte)) := by
  rw [buildW, bodyW_eq_requestBytes]
  obtain ⟨c0, cs, hcs, hd⟩ := decodeRequest_withChecksum (cmd := Config.cmdWrite) (dev := dev) (reg := reg)
    (be16_hi_lo (n := payload.length + 4) (by omega))
  rw [hd]
  unfold readRequest
  rw [if_pos rfl, hcs, List.dropLast_concat]

theorem decodeRequest_buildR (dev reg : Byte) (n : Half) :
    decodeRequest (buildR dev reg n) = .ok (.readRegisters (ofByte dev) (ofByte reg) (Int.ofNat n.toNat)) := by
  rw [buildR, bodyR_eq_requestBytes]
  obtain ⟨c0, cs, hcs, hd⟩ := decodeRequest_withChecksum (cmd := Config.cmdRead) (dev := dev) (reg := reg)
    (rest := [hi8 n.toNat, lo8 n.toNat]) (be16_hi_lo (n := 6) (by decide))
  obtain ⟨rfl, rfl⟩ := List.cons_eq_cons.1 hcs
  rw [hd]
  unfold readRequest
  rw [if_neg (by decide), if_pos rfl]
  simp [be16_hi_lo n.isLt]

/-- What the decoder reads as a request is one of the two, as the encoder writes it. -/
theorem decodeRequest_ok {bytes : List Byte} {i : Instr} (h : decodeRequest bytes = .ok i) :
    (∃ d r p, p.length ≤ 65531 ∧ bytes = buildW d r p ∧
      i = .writeRegisters (ofByte d) (ofByte r) (p.map ofByte)) ∨
    (∃ d r, ∃ n : Half, bytes = buildR d r n ∧ i = .readRegisters (ofByte d) (ofByte r) (Int.ofNat n.toNat)) := by
  unfold decodeRequest at h
  split at h
  case h_2 => cases h
  next s0 s1 hi lo cmd dev reg c0 rest =>
  split at h
  · cases h
  next hsync =>
  split at h
  · cases h
  next hlen =>
  split at h
  · cases h
  next hsum =>
  simp only [not_or, not_not] at hsync hlen hsum
  obtain ⟨rfl, rfl⟩ := hsync
  have hbytes : withChecksum (requestBytes hi lo cmd dev reg (c0 :: rest).dropLast) =
      Config.sync :: Config.sync :: hi :: lo :: cmd :: dev :: reg :: c0 :: rest := by
    have := List.dropLast_append_getLast? _ hsum
    simpa [withChecksum, requestBytes] using this
  have hcount : be16 hi lo = (c0 :: rest).dropLast.length + 4 := by
    simp at hlen ⊢; omega
  rw [← hbytes]
  have hlt := be16_lt hi lo
  split at h
  next hcmd =>
    cases h
    refine .inl ⟨dev, reg, (c0 :: rest).dropLast, by omega, ?_, rfl⟩
    rw [buildW, bodyW_eq_requestBytes, ← hcount, hi8_be16, lo8_be16, hcmd]
  next =>
  split at h
  next hcmd =>
    split at h
    next low last =>
      cases h
      have hcount6 : be16 hi lo = 6 := by simpa using hcount
      refine .inr ⟨dev, reg, BitVec.ofNat 16 (be16 c0 low), ?_, ?_⟩
      · rw [buildR, bodyR_eq_requestBytes, ← hcount6, hi8_be16, lo8_be16, hcmd, BitVec.toNat_ofNat,
          Nat.mod_eq_of_lt (be16_lt c0 low), hi8_be16, lo8_be16]
        rfl
      · rw [BitVec.toNat_ofNat, Nat.mod_eq_of_lt (be16_lt c0 low)]
    · cases h
  · cases h

/-! ## Responses -/

/-- A response is read back as its header, payload and trailer (R82, R90). -/
theorem decodeResponse_response {header payload : List Byte} {trailer : Byte} (hh : header.length = 7) :
    decodeResponse payload.length (header ++ [Config.ack] ++ payload ++ [trailer]) =
      .ok (header, payload, trailer) := by
  have hd : (header ++ [Config.ack] ++ payload ++ [trailer]).drop 8 = payload ++ [trailer] := by
    rw [List.append_assoc, List.drop_left' (by simp [hh])]
  rw [Machine.decodeResponse_eq_ok (by simp [hh]; omega) (by simp [← hh]), hd]
  have ht : (header ++ [Config.ack] ++ payload ++ [trailer])[8 + payload.length]? = some trailer := by
    rw [← List.getElem?_drop, hd, List.getElem?_concat_length]
  rw [ht, List.take_left, List.append_assoc, List.append_assoc, List.take_left' hh]
  rfl

/-- What the decoder reads as a response is the parts it is made of, with the acknowledgement at offset 7 (R90, R92). -/
theorem decodeResponse_ok {n : Nat} {bytes header payload : List Byte} {trailer : Byte}
    (h : decodeResponse n bytes = .ok (header, payload, trailer)) :
    header.length = 7 ∧ payload.length = n ∧ bytes = header ++ [Config.ack] ++ payload ++ [trailer] := by
  by_cases hl : bytes.length = 9 + n
  case neg =>
    unfold decodeResponse at h
    rw [if_pos (by exact hl)] at h
    cases h
  obtain ⟨b, hb⟩ : ∃ b, bytes[7]? = some b := ⟨bytes[7], List.getElem?_eq_getElem (by omega)⟩
  by_cases ha : b = Config.ack
  case neg => rw [Machine.decodeResponse_eq_badAck hl hb ha] at h; cases h
  subst ha
  rw [Machine.decodeResponse_eq_ok hl hb] at h
  cases h
  refine ⟨by simp; omega, by simp; omega, Machine.response_split hl hb⟩

/-! ## The round trips -/

/-- Settles O1: the two requests by `decodeRequest_buildW` and `decodeRequest_buildR`, the two responses by
`decodeResponse_response`; the other rows have no frame. -/
theorem decodeOfEncodeIsTheInstruction : Obligations.DecodeOfEncodeIsTheInstruction := by
  intro i bytes _ he
  cases i with
  | writeRegisters dev reg payload =>
    obtain ⟨d, r, q, rfl, rfl, rfl, hq, rfl⟩ := encode_write he
    exact decodeRequest_buildW hq
  | readRegisters dev reg length =>
    obtain ⟨d, r, m, rfl, rfl, rfl, rfl⟩ := encode_read he
    exact decodeRequest_buildR d r m
  | responseToWrite header trailer =>
    obtain ⟨hh, hbytes⟩ := Option.ite_none_right_eq_some.1 he
    obtain rfl := Option.some.inj hbytes
    have hd := decodeResponse_response (payload := []) (trailer := trailer) hh
    rw [List.append_nil] at hd
    simp only [channelOf, decode, List.length_nil ▸ hd]
  | responseToRead header payload trailer =>
    obtain ⟨hh, hbytes⟩ := Option.ite_none_right_eq_some.1 he
    obtain rfl := Option.some.inj hbytes
    simp only [channelOf, decode, decodeResponse_response hh]
  | _ => cases he

/-- Settles O2: what each channel's decoder accepts is a frame by `decodeRequest_ok` and `decodeResponse_ok`. -/
theorem encodeOfDecodeIsTheFrame : Obligations.EncodeOfDecodeIsTheFrame := by
  intro channel bytes i hn h
  cases channel with
  | request =>
    obtain ⟨d, r, p, hp, rfl, rfl⟩ | ⟨d, r, n, rfl, rfl⟩ := decodeRequest_ok h
    · refine ⟨?_, ?_, rfl⟩
      · simp only [encode, toByte?_ofByte, toBytes?_some.2 rfl]
        exact if_pos hp
      · simp [Instr.wf, fitsByte_ofByte, Config.maxEncodablePayload, hp]
    · refine ⟨?_, ?_, rfl⟩
      · simp only [encode, toByte?_ofByte, toHalf?_some.2 rfl]
      · have := n.isLt
        simp [Instr.wf, fitsByte_ofByte, fitsHalf]; omega
  | responseToWrite =>
    simp only [decode] at h
    split at h <;> cases h
    next header payload trailer hd =>
    obtain ⟨hh, hp, rfl⟩ := decodeResponse_ok hd
    obtain rfl := List.eq_nil_of_length_eq_zero hp
    simp [encode, Instr.wf, channelOf, Config.ackOffset, hh]
  | responseToRead n =>
    simp only [decode] at h
    split at h <;> cases h
    next header payload trailer hd =>
    obtain ⟨hh, rfl, rfl⟩ := decodeResponse_ok hd
    simp [encode, Instr.wf, channelOf, Config.ackOffset, hh, hn _ rfl]

/-- Settles O3: each worked frame is decoded by evaluation. -/
theorem workedFramesDecode : Obligations.WorkedFramesDecode := by
  refine ⟨?_, ?_, ?_, ?_, ?_⟩ <;> decide

/-! ## The checksum -/

theorem sum8_append (a b : List Byte) : sum8 (a ++ b) = sum8 a + sum8 b := by
  induction a with
  | nil => simp [sum8_nil]
  | cons x a ih => simp [sum8_cons, ih, BitVec.add_assoc]

theorem sum8_perm {a b : List Byte} (h : a.Perm b) : sum8 a = sum8 b := by
  apply BitVec.eq_of_toNat_eq
  rw [sum8_toNat, sum8_toNat, (h.map BitVec.toNat).sum_eq]

/-- Settles O6: the value by `sum8_toNat`; evaluating it is `computeSum8`. -/
theorem checksumIsTheByteSum : Obligations.ChecksumIsTheByteSum :=
  ⟨sum8_toNat, fun _ _ => rfl⟩

/-- Settles O7: concatenation gives the law of a complete request; the preamble's two bytes add up to `0xDE`. -/
theorem checksumLaws : Obligations.ChecksumLaws := by
  refine ⟨sum8_append, fun _ _ => sum8_perm, fun body => ?_, fun rest => ?_⟩
  · rw [withChecksum, sum8_append, sum8_cons, sum8_nil, BitVec.add_zero]
  · rw [sum8_cons, sum8_cons, ← BitVec.add_assoc]
    rfl

/-! ## The length field and the command byte -/

theorem buildW_length_bytes (dev reg : Byte) (payload : List Byte) :
    (buildW dev reg payload)[2]? = some (hi8 (payload.length + 4)) ∧
      (buildW dev reg payload)[3]? = some (lo8 (payload.length + 4)) :=
  ⟨buildW_getElem?_header dev reg payload (by decide), buildW_getElem?_header dev reg payload (by decide)⟩

theorem hi8_eq_zero {n : Nat} (h : n < 256) : hi8 n = 0#8 := by
  rw [hi8, Nat.div_eq_of_lt h]

/-- A request of the write layout with a command byte of its own is rejected by that byte (R88, R91). -/
theorem decodeRequest_unknownCommand {cmd dev reg : Byte} {payload : List Byte} (hl : payload.length ≤ 65531)
    (hw : cmd ≠ Config.cmdWrite) (hr : cmd ≠ Config.cmdRead) :
    decodeRequest (withChecksum
        (requestBytes (hi8 (payload.length + 4)) (lo8 (payload.length + 4)) cmd dev reg payload)) =
      .error (.unknownCommand cmd) := by
  obtain ⟨c0, cs, -, hd⟩ := decodeRequest_withChecksum (cmd := cmd) (dev := dev) (reg := reg)
    (be16_hi_lo (n := payload.length + 4) (by omega))
  rw [hd]
  unfold readRequest
  rw [if_neg hw, if_neg hr]

/-- Settles O9: the headers of the two requests by offset; the rejection is `decodeRequest_unknownCommand`. -/
theorem commandByteNamesTheRequest : Obligations.CommandByteNamesTheRequest := by
  refine ⟨fun dev reg p _ => ⟨rfl, buildW_getElem?_header dev reg p (by decide)⟩, fun dev reg n => ?_,
    fun cmd dev reg p hp hw hr => decodeRequest_unknownCommand hp hw hr⟩
  rw [buildR, bodyR_eq]
  rfl

/-! ## Operands that fit -/

namespace Machine

/-- The operands of a write are the integers of bytes, and its payload fits (R84, R93). -/
theorem writeOperands_some {params : Params} {dev reg : Int} {payload : List Int} {d r : Byte} {p : List Byte} :
    writeOperands params dev reg payload = some (d, r, p) ↔
      dev = ofByte d ∧ reg = ofByte r ∧ payload = p.map ofByte ∧ PayloadFits params p := by
  rw [← toByte?_some, ← toByte?_some, ← toBytes?_some]
  unfold writeOperands
  constructor
  · intro h
    split at h
    next hd hr hp =>
      obtain ⟨hf, h⟩ := Option.ite_none_right_eq_some.1 h
      cases h
      exact ⟨hd, hr, hp, hf⟩
    · cases h
  · rintro ⟨hd, hr, hp, hf⟩
    simp only [hd, hr, hp]
    exact if_pos hf

/-- The operands of a read are the integers of their fields (R93). -/
theorem readOperands_some {dev reg length : Int} {d r : Byte} {n : Half} :
    readOperands dev reg length = some (d, r, n) ↔
      dev = ofByte d ∧ reg = ofByte r ∧ length = Int.ofNat n.toNat := by
  rw [← toByte?_some, ← toByte?_some, ← toHalf?_some]
  unfold readOperands
  constructor
  · intro h
    split at h
    next hd hr hn => cases h; exact ⟨hd, hr, hn⟩
    · cases h
  · rintro ⟨hd, hr, hn⟩
    simp only [hd, hr, hn]

theorem exec_writeRegisters_unencodable {dev reg : Int} {payload : List Int} {s : State} (hp : s.phase = .idle)
    (hc : s.configured = true) (h : writeOperands s.params dev reg payload = none) :
    exec (.writeRegisters dev reg payload) s = .refused .unencodable := by
  simp [exec, execWriteRegisters, issueWriteRegisters, hp, hc, h]

theorem exec_readRegisters_unencodable {dev reg length : Int} {s : State} (hp : s.phase = .idle)
    (hc : s.configured = true) (h : readOperands dev reg length = none) :
    exec (.readRegisters dev reg length) s = .refused .unencodable := by
  simp [exec, execReadRegisters, issueReadRegisters, hp, hc, h]

end Machine

/-- Settles O8: the field is that of `buildW_length_bytes`; a longer payload is no operand of a write. -/
theorem writeLengthFieldNeverWraps : Obligations.WriteLengthFieldNeverWraps := by
  constructor
  · intro dev reg payload hl
    obtain ⟨hhi, hlo⟩ := buildW_length_bytes dev reg payload
    exact ⟨_, _, hhi, hlo, be16_hi_lo (by omega), fun h => hi8_eq_zero (by omega)⟩
  · intro dev reg payload s hl hp hc
    refine Machine.exec_writeRegisters_unencodable hp hc (Option.eq_none_iff_forall_ne_some.2 ?_)
    rintro ⟨d, r, p⟩ h
    obtain ⟨-, -, rfl, -, hmax⟩ := Machine.writeOperands_some.1 h
    simp [Config.maxEncodablePayload] at hl hmax
    omega

end Sys2Proof
end

section

/-! # What one part of an operation can be

`Part` lists every way one part of an operation in progress can go on (R30, R31); `phaseStep_next` says that there is no
other. Frames, the invariant and the bounds are read off it. -/

namespace Sys2Proof.Machine

/-- The call `c` has returned: what has changed is outside the block's registers. -/
def returned (c : Call) (answers : Transport) (clock : Nat) (s : State) : State :=
  { s with transport := answers, clock := clock, calls := s.calls ++ [c] }

/-- A call of a transaction's body that is no call of the clock. -/
def isBodyCall : Call → Bool
  | .flushBuffers _ _ => true
  | .write _ _ _ _ => true
  | .checkQueueStatus _ _ _ _ => true
  | .read _ _ _ _ => true
  | _ => false

/-- The errors a transaction's body can raise. -/
def isBodyError (e : ErrorCode) : Bool :=
  decide (e = .driverError) || decide (e = .ioError) || decide (e = .timeoutError) || decide (e = .protocolError)

/-- `T.close` has answered `st`: its failure is the outcome only if there was none before (R127). -/
def closeOutcome (st : Status) (s : State) : State :=
  { s with
    closeErr := st,
    err := if st ≠ 0 ∧ s.err = .none then .driverError else s.err,
    errInfo := if st ≠ 0 ∧ s.err = .none then some (.status st) else s.errInfo,
    bytesWritten := if st ≠ 0 ∧ s.err = .none then none else s.bytesWritten,
    rdata := if st ≠ 0 ∧ s.err = .none then none else s.rdata }

/-- The block after `T.close` has answered `st` (R126, R127). -/
def closedWith (st : Status) (draws : Nat) (s : State) : State :=
  goIdle (closeOutcome st { s with isOpen := false, handle := none, draws := draws })

/-- The parts of an operation that go on: from the state before to the state after. -/
inductive Part (s : State) : State → Prop
  -- the select operations (R110 to R112)
  | counted {a : Transport} {k : Nat} {count : Nat} (hp : inSelect s.phase = true) (hn : s.scanCount = none)
      (hq : s.transport.counts = (0, count) :: a.counts) (hd : a.descriptors = s.transport.descriptors) :
      Part s { (returned (.enumerateCount 0 count) a k s) with scanCount := some count }
  | countFailed {a : Transport} {k : Nat} {st : Status} {count : Nat} (hp : inSelect s.phase = true)
      (hn : s.scanCount = none) (hst : st ≠ 0) : Part s (raiseDriver st (returned (.enumerateCount st count) a k s))
  | indexChosen {count : Nat} {index : Int} (hp : s.phase = .enumCount) (hc : s.scanCount = some count)
      (ho : s.op = some .selectIndex) (hi : indexInRange index count = true) : Part s (configure index.toNat s)
  | indexOutOfRange {count : Nat} (hp : s.phase = .enumCount) (hc : s.scanCount = some count)
      (ho : s.op = some .selectIndex) : Part s (raise .rangeError none s)
  | scanStarted {count : Nat} (hp : s.phase = .enumCount) (hc : s.scanCount = some count)
      (ho : s.op = some .selectSerial) : Part s { s with phase := .enumDesc, scanIdx := some 0, scanFound := none }
  | described {a : Transport} {k : Nat} {i count : Nat} {want value : Str} (hp : s.phase = .enumDesc)
      (hi : s.scanIdx = some i) (hc : s.scanCount = some count) (hlt : i < count)
      (hd : s.transport.descriptors.length = a.descriptors.length + 1) :
      Part s (scanned want value i (returned (.enumerateDescriptor i .serial 0 value) a k s))
  | descriptorFailed {a : Transport} {k : Nat} {i count : Nat} {st : Status} {value : Str} (hp : s.phase = .enumDesc)
      (hi : s.scanIdx = some i) (hc : s.scanCount = some count) (hlt : i < count) (hst : st ≠ 0) :
      Part s (raiseDriver st (returned (.enumerateDescriptor i .serial st value) a k s))
  | serialFound {found : Nat} (hp : s.phase = .enumDesc) (hf : s.scanFound = some found) : Part s (configure found s)
  | serialNotFound (hp : s.phase = .enumDesc) : Part s (raise .deviceNotFoundError none s)
  -- opening (R125), and the best-effort open of the close sequence (R126)
  | opened {a : Transport} {k : Nat} {index : Nat} {h : Handle}
      (hp : s.phase = .opening ∨ s.phase = .reopening ∧ s.params.reopenInClose = .viaFlag)
      (hd : s.setTimeoutsDue = false) (ho : s.isOpen = false) :
      Part s { (returned (.openDevice index 0 h) a k s) with handle := some h, isOpen := true, setTimeoutsDue := true }
  | openFailed {a : Transport} {k : Nat} {index : Nat} {h : Handle} {st : Status} (hp : s.phase = .opening)
      (hd : s.setTimeoutsDue = false) (ho : s.isOpen = false) (hst : st ≠ 0) :
      Part s (raiseDriver st (returned (.openDevice index st h) a k s))
  | timeoutsSet {a : Transport} {k : Nat} {h : Handle} (hp : s.phase = .opening) (hd : s.setTimeoutsDue = true) :
      Part s (goTo .build
        { (returned (.setTimeouts h s.readTimeoutMs s.writeTimeoutMs 0) a k s) with setTimeoutsDue := false })
  | timeoutsFailed {a : Transport} {k : Nat} {h : Handle} {st : Status} (hp : s.phase = .opening)
      (hd : s.setTimeoutsDue = true) (hst : st ≠ 0) :
      Part s (raiseDriver st
        { (returned (.setTimeouts h s.readTimeoutMs s.writeTimeoutMs st) a k s) with setTimeoutsDue := false })
  | alreadyOpen (hp : s.phase = .opening) (hd : s.setTimeoutsDue = false) (ho : s.isOpen = true) :
      Part s (goTo .build s)
  | reopenFailed {a : Transport} {k : Nat} {index : Nat} {h : Handle} {st : Status} (hp : s.phase = .reopening)
      (hm : s.params.reopenInClose = .always ∨ s.setTimeoutsDue = false ∧ s.isOpen = false) (hst : st ≠ 0) :
      Part s (goTo .closing (returned (.openDevice index st h) a k s))
  | reopenTimeouts {a : Transport} {k : Nat} {h : Handle} {st : Status} (hp : s.phase = .reopening)
      (hm : s.params.reopenInClose = .viaFlag) (hd : s.setTimeoutsDue = true) :
      Part s (goTo .closing
        { (returned (.setTimeouts h s.readTimeoutMs s.writeTimeoutMs st) a k s) with setTimeoutsDue := false })
  | reopenSkipped (hp : s.phase = .reopening) (hm : s.params.reopenInClose = .viaFlag)
      (hd : s.setTimeoutsDue = false) (ho : s.isOpen = true) : Part s (goTo .closing s)
  | reopenedAlways {a : Transport} {k : Nat} {index : Nat} {h : Handle} (hp : s.phase = .reopening)
      (hm : s.params.reopenInClose = .always) :
      Part s (goTo .closing { (returned (.openDevice index 0 h) a k s) with handle := some h, isOpen := true })
  -- the body (R141, R156, R172 to R176)
  | built {body : List Byte} (hp : s.phase = .build) (hb : requestBody s = .ok body) : Part s (loadRequest body s)
  | flushed {a : Transport} {k : Nat} {h : Handle} (hp : s.phase = .flushing) :
      Part s (goTo .transmitting (returned (.flushBuffers h 0) a k s))
  | sent {a : Transport} {k : Nat} {h : Handle} {frame : List Byte} (hp : s.phase = .transmitting)
      (hf : s.txbuf = some frame) :
      Part s (transmitted frame.length (returned (.write h frame 0 frame.length) a k s))
  | polledOnce {a : Transport} {k : Nat} {h : Handle} {polls available : Nat} {code : Int} (hp : s.phase = .polling)
      (hq : s.qstatus = none) (hc : s.pollCnt = some polls) :
      Part s (polled polls code (returned (.checkQueueStatus h 0 available code) a k s))
  | decided {code : Int} (hp : s.phase = .polling) (hq : s.qstatus = some code) : Part s (pollDecided code s)
  | waited {a : Transport} {k : Nat} {polls : Nat} (hp : s.phase = .waiting) (hc : s.pollCnt = some polls)
      (hl : polls ≠ Config.pollLimit) : Part s (goTo .polling (returned (.sleepMs Config.pollIntervalMs) a k s))
  | received {a : Transport} {k : Nat} {h : Handle} {n : Nat} {bytes : List Byte} (hp : s.phase = .receiving)
      (hn : responsePayload s = .ok n) (hl : bytes.length = Config.respOverhead + n) :
      Part s { (returned (.read h (Config.respOverhead + n) 0 bytes) a k s) with
        rxbuf := some bytes, phase := .checking }
  | writeAnswered {n : Nat} (hp : s.phase = .checking) (ho : s.op = some .writeRegisters)
      (hn : writtenCount s = .ok n) : Part s (responseTaken { s with bytesWritten := some n })
  | readAnswered {payload : List Byte} {n : Half} (hp : s.phase = .checking) (ho : s.op = some .readRegisters)
      (hn : s.length = some n) (hl : payload.length = n.toNat) :
      Part s (responseTaken { s with rdata := some payload })
  -- errors of the body
  | callFailed {a : Transport} {k : Nat} {c : Call} {e : ErrorCode} {info : Option ErrorInfo}
      (hp : s.phase = .flushing ∨ s.phase = .transmitting ∨ s.phase = .receiving) (ho : s.isOpen = true)
      (hc : isBodyCall c = true) (he : isBodyError e = true) (hi : infoFits e info) :
      Part s (raise e info (returned c a k s))
  | pollFailed {a : Transport} {k : Nat} {h : Handle} {polls available : Nat} {code : Int} {st : Status}
      (hp : s.phase = .polling) (hq : s.qstatus = none) (hc : s.pollCnt = some polls) (ho : s.isOpen = true)
      (hst : st ≠ 0) :
      Part s (raiseDriver st (polled polls code (returned (.checkQueueStatus h st available code) a k s)))
  | timedOut {a : Transport} {k : Nat} {polls : Nat} (hp : s.phase = .waiting) (hc : s.pollCnt = some polls) :
      Part s (raise .timeoutError none (returned (.sleepMs Config.pollIntervalMs) a k s))
  | checkFailed {e : ErrorCode} {info : Option ErrorInfo} (hp : s.phase = .checking) (he : isBodyError e = true)
      (hi : infoFits e info) : Part s (raise e info s)
  -- the close (R126, R127)
  | closed {a : Transport} {k : Nat} {st : Status} {draws : Nat} (hp : s.phase = .closing) :
      Part s (closedWith st draws (returned (.close (closeHandle s) st) a k s))

/-! ## Inversion -/

variable {s t : State}

theorem enumerateCall_next (hp : inSelect s.phase = true) (hn : s.scanCount = none) (h : enumerateCall s = .next t) :
    t = s ∧ s.transport.counts = [] ∨ Part s t := by
  unfold enumerateCall at h
  rcases callEnumerateCount_cases s with ⟨hq, he⟩ | ⟨⟨st, count⟩, rest, hq, he⟩ <;> rw [he] at h <;> cases h
  · exact .inl ⟨rfl, hq⟩
  · by_cases hst : st = 0
    · subst hst; exact .inr (.counted hp hn hq rfl)
    · simp only [if_pos hst]; exact .inr (.countFailed hp hn hst)

/-- The payload count the operation in progress awaits (R82). -/
theorem responsePayload_ok {n : Nat} (h : responsePayload s = .ok n) :
    s.op = some .writeRegisters ∧ n = 0 ∨
      ∃ k : Half, s.op = some .readRegisters ∧ s.length = some k ∧ n = k.toNat := by
  unfold responsePayload at h
  split at h
  next ho => cases h; exact .inl ⟨ho, rfl⟩
  next ho =>
    cases hk : s.length with
    | none => rw [hk] at h; cases h
    | some k => rw [hk] at h; cases h; exact .inr ⟨k, ho, rfl, rfl⟩
  · cases h

/-- A buffer of another length is no response to the operation in progress (R89). -/
theorem decode_responseChannel_ne_ok {n : Nat} {bytes : List Byte} (hn : responsePayload s = .ok n)
    (hl : bytes.length ≠ 9 + n) (i : Instr) : decode (responseChannel s n) bytes ≠ .ok i := by
  have hd : decodeResponse n bytes = .error .badLength := by
    unfold decodeResponse
    exact if_pos hl
  obtain ⟨ho, rfl⟩ | ⟨k, ho, -, rfl⟩ := responsePayload_ok hn <;>
    simp [responseChannel, ho, decode, hd]

/-- A response of the awaited count with the acknowledgement is the operation's result; every other buffer is an error
of the body (R90, R142, R157, R176). -/
theorem checkCall_part (hp : s.phase = .checking) (h : checkCall s = .next t) : Part s t := by
  have hcheck := h
  obtain ⟨s1, hack, h⟩ := andThen_eq_next h
  obtain ⟨bytes, hb, ⟨b, h7, rfl⟩ | ⟨h7, n, -, rfl⟩⟩ := ackCheckStep_next hack
  case inr =>
    rw [if_neg (by rw [raiseIo, raise_phase]; split <;> simp)] at h
    cases h
    refine .checkFailed hp rfl ?_
    have := List.getElem?_eq_none_iff.1 h7
    simp only [infoFits]; omega
  by_cases hb0 : b = Config.ack
  case neg =>
    rw [if_neg hb0, if_neg (by rw [raise_phase]; split <;> simp)] at h
    cases h
    exact .checkFailed hp rfl hb0
  subst hb0
  rw [if_pos rfl, if_pos hp] at h
  simp only [takeResponse, hb, reading_some] at h
  split at h
  case h_2 => cases h
  next n hn =>
  by_cases hl : bytes.length = 9 + n
  · obtain ho | ⟨k, ho, hk, hkn⟩ := responsePayload_ok hn
    · obtain ⟨ho, rfl⟩ := ho
      rw [checkCall_acked_write hp ho hb hl h7] at hcheck
      split at hcheck
      next m hm => cases hcheck; exact .writeAnswered hp ho hm
      · cases hcheck
    · subst hkn
      rw [checkCall_read hp ho hb hk hl h7] at hcheck
      cases hcheck
      exact .readAnswered hp ho hk (by simp; omega)
  · have hd : ∀ i, decode (responseChannel s n) bytes ≠ .ok i := decode_responseChannel_ne_ok hn hl
    split at h
    next hok => exact absurd hok (hd _)
    next hok => exact absurd hok (hd _)
    · cases h
      exact .checkFailed hp rfl (fun h => hl h.symm)

theorem flushCall_part (hp : s.phase = .flushing) (h : flushCall s = .next t) :
    t = s ∧ awaiting s = true ∨ Part s t := by
  obtain ⟨hd, hh, ho, ⟨hq, rfl⟩ | ⟨st, rest, hq, rfl⟩⟩ := flushCall_next h
  · exact .inl ⟨rfl, by simp [awaiting, hp, inSession, hh, ho, hq]⟩
  · refine .inr ?_
    by_cases hst : st = 0
    · subst hst; exact .flushed hp
    · simp only [if_pos hst]; exact .callFailed (.inl hp) ho rfl rfl hst

theorem transmitCall_part (hp : s.phase = .transmitting) (h : transmitCall s = .next t) :
    t = s ∧ awaiting s = true ∨ Part s t := by
  obtain ⟨frame, hd, hf, hh, ho, ⟨hq, rfl⟩ | ⟨st, n, rest, hq, rfl⟩⟩ := transmitCall_next h
  · exact .inl ⟨rfl, by simp [awaiting, hp, inSession, hh, ho, hq, hf]⟩
  · refine .inr ?_
    by_cases hst : st = 0
    · subst hst
      by_cases hn : n = frame.length
      · subst hn
        simp only [if_neg (not_not.2 rfl)]
        exact .sent hp hf
      · simp only [if_pos hn, if_neg (not_not.2 rfl)]
        exact .callFailed (.inr (.inl hp)) ho rfl rfl (Ne.symm hn)
    · simp only [if_pos hst]; exact .callFailed (.inr (.inl hp)) ho rfl rfl hst

theorem pollCall_part (hp : s.phase = .polling) (h : pollCall s = .next t) : t = s ∧ awaiting s = true ∨ Part s t := by
  obtain ⟨code, hc, rfl⟩ | ⟨polls, hd, hn, hc, hh, ho, ⟨hq, rfl⟩ | ⟨st, av, code, rest, hq, rfl⟩⟩ := pollCall_next h
  · exact .inr (.decided hp hc)
  · exact .inl ⟨rfl, by simp [awaiting, hp, inSession, hh, ho, hq, hn, hc]⟩
  · refine .inr ?_
    by_cases hst : st = 0
    · subst hst; exact .polledOnce hp hn hc
    · simp only [if_pos hst]; exact .pollFailed hp hn hc ho hst

theorem waitCall_part (hp : s.phase = .waiting) (h : waitCall s = .next t) : t = s ∧ awaiting s = true ∨ Part s t := by
  obtain ⟨polls, hc, ⟨hq, rfl⟩ | ⟨later, hq, rfl⟩⟩ := waitCall_next h
  · exact .inl ⟨rfl, by simp [awaiting, hp, hc, hq]⟩
  · refine .inr ?_
    by_cases hl : polls = Config.pollLimit
    · simp only [if_pos hl]; exact .timedOut hp hc
    · simp only [if_neg hl]; exact .waited hp hc hl

theorem receiveResponse_part (hp : s.phase = .receiving) (h : receiveResponse s = .next t) :
    t = s ∧ awaiting s = true ∨ Part s t := by
  obtain ⟨n, hn, h⟩ := receiveResponse_next h
  obtain ⟨hd, hh, ho, ⟨hq, rfl⟩ | ⟨st, bytes, rest, hq, rfl⟩⟩ := receiveCall_next h
  · exact .inl ⟨rfl, by simp [awaiting, hp, hn, inSession, hh, ho, hq]⟩
  · refine .inr ?_
    by_cases hst : st = 0
    · subst hst
      by_cases hl : bytes.length = Config.respOverhead + n
      · simp only [if_neg (not_not.2 hl), if_neg (not_not.2 rfl)]
        exact .received hp hn hl
      · simp only [if_pos hl, if_neg (not_not.2 rfl)]
        exact .callFailed (.inr (.inr hp)) ho rfl rfl (Ne.symm hl)
    · simp only [if_pos hst]; exact .callFailed (.inr (.inr hp)) ho rfl rfl hst

theorem countCall_part (hp : s.phase = .enumCount) (h : countCall s = .next t) :
    t = s ∧ awaiting s = true ∨ Part s t := by
  cases hn : s.scanCount with
  | none =>
    simp only [countCall, hn] at h
    obtain ⟨rfl, hq⟩ | h := enumerateCall_next (by simp [inSelect, hp]) hn h
    · exact .inl ⟨rfl, by simp [awaiting, hp, hn, hq]⟩
    · exact .inr h
  | some count =>
    refine .inr ?_
    obtain ⟨hc, -⟩ | ⟨_, _, _, hc, -⟩ | ⟨c, index, hc, ho, -, rfl⟩ | ⟨c, hc, ho, rfl⟩ := countCall_next h
    · simp [hn] at hc
    · simp [hn] at hc
    · by_cases hi : indexInRange index c = true
      · rw [if_pos hi]; exact .indexChosen hp hc ho hi
      · rw [if_neg hi]; exact .indexOutOfRange hp hc ho
    · exact .scanStarted hp hc ho

theorem descriptorCall_part (hp : s.phase = .enumDesc) (h : descriptorCall s = .next t) :
    t = s ∧ awaiting s = true ∨ Part s t := by
  obtain ⟨i, want, hi, hw, ⟨hn, h⟩ | ⟨count, hc, ⟨hlt, hq, rfl⟩ | ⟨st, value, rest, hlt, hq, rfl⟩ | ⟨-, rfl⟩⟩⟩ :=
    descriptorCall_next h
  · obtain ⟨rfl, hq⟩ | h := enumerateCall_next (by simp [inSelect, hp]) hn h
    · exact .inl ⟨rfl, by simp [awaiting, hp, hi, hw, hn, hq]⟩
    · exact .inr h
  · exact .inl ⟨rfl, by simp [awaiting, hp, hi, hw, hc, hlt, hq]⟩
  · refine .inr ?_
    by_cases hst : st = 0
    · subst hst; exact .described hp hi hc hlt (by simp [hq])
    · simp only [if_pos hst]; exact .descriptorFailed hp hi hc hlt hst
  · refine .inr ?_
    unfold scanDecision
    split
    next found hf => exact .serialFound hp hf
    · exact .serialNotFound hp

/-- In a phase that calls `OPEN_SESSION`, a call that has not returned is what the block waits for. -/
theorem awaitingOpen_of_blocked (h : openSessionCall s = .blocked) : awaitingOpen s = true := by
  obtain ⟨r, hr⟩ | ⟨hd, h0, hh, ⟨hq, -⟩ | ⟨st, rest, -, he⟩⟩ | ⟨-, -, he⟩ |
    ⟨hd, ho, index, hi, ⟨hq, -⟩ | ⟨st, h0, rest, -, he⟩⟩ := openSessionCall_cases s
  · rw [hr] at h; cases h
  · simp [awaitingOpen, hd, hh, hq]
  · rw [he] at h; by_cases hst : st = 0 <;> simp [hst] at h
  · rw [he] at h; cases h
  · simp [awaitingOpen, hd, ho, hi, hq]
  · rw [he] at h; by_cases hst : st = 0 <;> simp [hst] at h

theorem openCall_part (hp : s.phase = .opening) (h : openCall s = .next t) : t = s ∧ awaiting s = true ∨ Part s t := by
  unfold openCall at h
  obtain ⟨r, hr⟩ | ⟨hd, h0, -, ⟨-, he⟩ | ⟨st, rest, -, he⟩⟩ | ⟨hd, ho, he⟩ |
    ⟨hd, ho, index, hi, ⟨-, he⟩ | ⟨st, h0, rest, -, he⟩⟩ := openSessionCall_cases s
  · rw [hr] at h; cases h
  · rw [he] at h; cases h
    exact .inl ⟨rfl, by simp only [awaiting, hp, awaitingOpen_of_blocked he]⟩
  · refine .inr ?_
    by_cases hst : st = 0
    · subst hst; rw [he] at h; cases h; exact .timeoutsSet hp hd
    · simp only [he, if_pos hst] at h; cases h; exact .timeoutsFailed hp hd hst
  · rw [he] at h; simp only [hd] at h; cases h
    exact .inr (.alreadyOpen hp hd ho)
  · rw [he] at h; cases h
    exact .inl ⟨rfl, by simp only [awaiting, hp, awaitingOpen_of_blocked he]⟩
  · refine .inr ?_
    by_cases hst : st = 0
    · subst hst; rw [he] at h; cases h; exact .opened (.inl hp) hd ho
    · simp only [he, if_pos hst] at h; cases h; exact .openFailed hp hd ho hst

theorem reopenCall_part (hp : s.phase = .reopening) (h : reopenCall s = .next t) :
    t = s ∧ awaiting s = true ∨ Part s t := by
  unfold reopenCall at h
  split at h
  next hm =>
    obtain ⟨r, hr⟩ | ⟨hd, h0, -, ⟨-, he⟩ | ⟨st, rest, -, he⟩⟩ | ⟨hd, ho, he⟩ |
      ⟨hd, ho, index, hi, ⟨-, he⟩ | ⟨st, h0, rest, -, he⟩⟩ := openSessionCall_cases s
    · rw [hr] at h; cases h
    · rw [he] at h; cases h
      exact .inl ⟨rfl, by simp only [awaiting, hp, hm, awaitingOpen_of_blocked he]⟩
    · refine .inr ?_
      by_cases hst : st = 0
      · subst hst; rw [he] at h; cases h; exact .reopenTimeouts hp hm hd
      · simp only [he, if_pos hst] at h; cases h; exact .reopenTimeouts hp hm hd
    · rw [he] at h; simp only [hd] at h; cases h
      exact .inr (.reopenSkipped hp hm hd ho)
    · rw [he] at h; cases h
      exact .inl ⟨rfl, by simp only [awaiting, hp, hm, awaitingOpen_of_blocked he]⟩
    · refine .inr ?_
      by_cases hst : st = 0
      · subst hst; rw [he] at h; cases h; exact .opened (.inr ⟨hp, hm⟩) hd ho
      · simp only [he, if_pos hst] at h; cases h; exact .reopenFailed hp (.inr ⟨hd, ho⟩) hst
  next hm =>
    obtain ⟨-, he⟩ | ⟨index, hi, ⟨hq, he⟩ | ⟨st, h0, rest, -, he⟩⟩ := openPrimitive_cases s
    · rw [he] at h; cases h
    · rw [he] at h; cases h
      exact .inl ⟨rfl, by simp [awaiting, hp, hm, hi, hq]⟩
    · refine .inr ?_
      by_cases hst : st = 0
      · subst hst; rw [he] at h; cases h; exact .reopenedAlways hp hm
      · simp only [he, if_pos hst] at h; cases h; exact .reopenFailed hp (.inl hm) hst

theorem closeCall_part (hp : s.phase = .closing) (h : closeCall s = .next t) :
    t = s ∧ awaiting s = true ∨ Part s t := by
  cases hq : s.transport.closes with
  | nil =>
    simp only [closeCall, callClose_none _ hq] at h
    cases h
    exact .inl ⟨rfl, by simp [awaiting, hp, hq]⟩
  | cons st rest =>
    rw [closeCall_returns hp hq] at h
    cases h
    exact .inr (.closed hp)

/-- Whatever a part of an operation answers: the block waits (in `IDLE`, or for a call), or it has gone on. -/
theorem phaseStep_next (h : phaseStep s = .next t) : t = s ∧ settled s = true ∨ Part s t := by
  have waits {P : Prop} (h : t = s ∧ awaiting s = true ∨ P) : t = s ∧ settled s = true ∨ P :=
    h.imp_left fun ⟨ht, ha⟩ => ⟨ht, by simp [settled, ha]⟩
  cases hp : s.phase with
  | idle => rw [phaseStep_idle hp] at h; cases h; exact .inl ⟨rfl, by simp [settled, hp]⟩
  | enumCount => exact waits (countCall_part hp (phaseStep_enumCount hp ▸ h))
  | enumDesc => exact waits (descriptorCall_part hp (phaseStep_enumDesc hp ▸ h))
  | opening => exact waits (openCall_part hp (phaseStep_opening hp ▸ h))
  | build =>
    obtain ⟨body, hb, rfl⟩ := buildCall_next (phaseStep_build hp ▸ h)
    exact .inr (.built hp hb)
  | flushing => exact waits (flushCall_part hp (phaseStep_flushing hp ▸ h))
  | transmitting => exact waits (transmitCall_part hp (phaseStep_transmitting hp ▸ h))
  | polling => exact waits (pollCall_part hp (phaseStep_polling hp ▸ h))
  | waiting => exact waits (waitCall_part hp (phaseStep_waiting hp ▸ h))
  | receiving => exact waits (receiveResponse_part hp (phaseStep_receiving hp ▸ h))
  | checking => exact .inr (checkCall_part hp (phaseStep_checking hp ▸ h))
  | reopening => exact waits (reopenCall_part hp (phaseStep_reopening hp ▸ h))
  | closing => exact waits (closeCall_part hp (phaseStep_closing hp ▸ h))

end Sys2Proof.Machine
end

section

/-! # What a part, an issue and a step leave alone -/

namespace Sys2Proof.Machine

variable {s t : State} {i : Instr}

/-! ## The parts -/

/-- A part writes no operand register, no parameter and not the host's queue. -/
structure OperandsKept (s t : State) : Prop where
  params : t.params = s.params
  op : t.op = s.op
  devAddr : t.devAddr = s.devAddr
  regAddr : t.regAddr = s.regAddr
  length : t.length = s.length
  payload : t.payload = s.payload
  selIndex : t.selIndex = s.selIndex
  selSerial : t.selSerial = s.selSerial
  requests : t.requests = s.requests

theorem Part.operandsKept (h : Part s t) : OperandsKept s t := by
  cases h <;> constructor <;> simp [returned, raiseDriver, scanned, closedWith, closeOutcome]

theorem Part.calls (h : Part s t) : t.calls = s.calls ∨ ∃ c, t.calls = s.calls ++ [c] := by
  cases h <;> simp [returned, raiseDriver, scanned, closedWith, closeOutcome]

/-- Only the parts of a select operation write `CONFIGURED` and `DEV_INDEX` (R22, R23). -/
theorem Part.configuration (h : Part s t) (hp : inSelect s.phase = false) :
    t.configured = s.configured ∧ t.devIndex = s.devIndex := by
  cases h
  case indexChosen hp0 _ _ _ => simp [inSelect, hp0] at hp
  case serialFound hp0 _ => simp [inSelect, hp0] at hp
  all_goals simp [returned, raiseDriver, scanned, closedWith, closeOutcome]

/-! ## The issue -/

/-- What issuing a request can answer (R66, R202): a transaction on a configured block with its operands loaded, a
select on an unconfigured one, or the discarded block. -/
inductive Issued (s : State) : Instr → State → Prop
  | transaction {i : Instr} {s1 : State} (ht : i.hostOp = some .writeRegisters ∨ i.hostOp = some .readRegisters)
      (hc : s.configured = true) (hl : loaded i s = some s1) : Issued s i (beginOperation .opening s1)
  | selectIndex {index : Int} (hc : s.configured = false) :
      Issued s (.selectIndex index)
        (beginOperation .enumCount { s with op := some .selectIndex, selIndex := some index })
  | selectSerial {serial : Str} (hc : s.configured = false) :
      Issued s (.selectSerial serial)
        (beginOperation .enumCount { s with op := some .selectSerial, selSerial := some serial })
  | discard : Issued s .discard (discarded s)

theorem issue_writeRegisters {dev reg : Int} {payload : List Int} (hp : s.phase = .idle) (hc : s.configured = true) :
    issue (.writeRegisters dev reg payload) s =
      match loaded (.writeRegisters dev reg payload) s with
      | none => .refused .unencodable
      | some s1 => .next (beginOperation .opening s1) := by
  simp only [issue, issueWriteRegisters, hp, hc, loaded]
  cases writeOperands s.params dev reg payload <;> rfl

theorem issue_readRegisters {dev reg length : Int} (hp : s.phase = .idle) (hc : s.configured = true) :
    issue (.readRegisters dev reg length) s =
      match loaded (.readRegisters dev reg length) s with
      | none => .refused .unencodable
      | some s1 => .next (beginOperation .opening s1) := by
  simp only [issue, issueReadRegisters, hp, hc, loaded]
  cases readOperands dev reg length <;> rfl

/-- While an operation is in progress no other is issued (R244). -/
theorem issue_busy (hp : s.phase ≠ .idle) (hi : i.hostOp.isSome = true) : issue i s = .refused .busy := by
  cases i with
  | writeRegisters | readRegisters | selectIndex | selectSerial | discard =>
    simp [issue, issueWriteRegisters, issueReadRegisters, issueSelectIndex, issueSelectSerial, execDiscard, hp]
  | _ => cases hi

theorem issue_notIssuable (hi : i.hostOp = none) : issue i s = .refused .notIssuable := by
  cases i with
  | writeRegisters | readRegisters | selectIndex | selectSerial | discard => cases hi
  | _ => rfl

theorem issue_next (h : issue i s = .next t) : s.phase = .idle ∧ Issued s i t := by
  by_cases hi : i.hostOp = none
  · rw [issue_notIssuable hi] at h; cases h
  by_cases hp : s.phase = .idle
  case neg => rw [issue_busy hp (Option.isSome_iff_ne_none.2 hi)] at h; cases h
  refine ⟨hp, ?_⟩
  cases i with
  | writeRegisters dev reg payload =>
    cases hc : s.configured with
    | false => simp [issue, issueWriteRegisters, hp, hc] at h
    | true =>
      rw [issue_writeRegisters hp hc] at h
      split at h <;> cases h
      next s1 hl => exact .transaction (.inl rfl) hc hl
  | readRegisters dev reg length =>
    cases hc : s.configured with
    | false => simp [issue, issueReadRegisters, hp, hc] at h
    | true =>
      rw [issue_readRegisters hp hc] at h
      split at h <;> cases h
      next s1 hl => exact .transaction (.inr rfl) hc hl
  | selectIndex index =>
    cases hc : s.configured with
    | true => simp [issue, issueSelectIndex, hp, hc] at h
    | false =>
      rw [issue, issueSelectIndex, if_neg (not_not.2 hp), if_neg (by simp [hc])] at h
      cases h; exact .selectIndex hc
  | selectSerial serial =>
    cases hc : s.configured with
    | true => simp [issue, issueSelectSerial, hp, hc] at h
    | false =>
      rw [issue, issueSelectSerial, if_neg (not_not.2 hp), if_neg (by simp [hc])] at h
      cases h; exact .selectSerial hc
  | discard =>
    rw [issue, execDiscard, if_neg (not_not.2 hp)] at h
    cases h; exact .discard
  | _ => exact absurd rfl hi

/-- Loading the operands of a transaction writes operand registers only. -/
theorem loaded_eq {s1 : State} (h : loaded i s = some s1) :
    ∃ op d r n p, s1 = { s with op := op, devAddr := d, regAddr := r, length := n, payload := p } := by
  cases i with
  | writeRegisters dev reg payload =>
    obtain ⟨o, -, rfl⟩ := Option.map_eq_some_iff.1 h
    exact ⟨_, _, _, _, _, rfl⟩
  | readRegisters dev reg length =>
    obtain ⟨o, -, rfl⟩ := Option.map_eq_some_iff.1 h
    exact ⟨_, _, _, _, _, rfl⟩
  | transact =>
    obtain ⟨-, h⟩ := Option.ite_none_right_eq_some.1 h
    cases h
    exact ⟨_, _, _, _, _, rfl⟩
  | _ => cases h

/-- The operands loaded describe a request that can be encoded (R93, R127). -/
theorem loaded_requestFrame {s1 : State} (h : loaded i s = some s1) : (requestFrame s1).isSome = true := by
  cases i with
  | writeRegisters dev reg payload =>
    obtain ⟨⟨d, r, p⟩, ho, rfl⟩ := Option.map_eq_some_iff.1 h
    obtain ⟨-, -, -, hfits⟩ := writeOperands_some.1 ho
    rw [requestFrame, requestBody_write rfl rfl rfl rfl, if_pos hfits]
    rfl
  | readRegisters dev reg length =>
    obtain ⟨o, -, rfl⟩ := Option.map_eq_some_iff.1 h
    rfl
  | transact =>
    obtain ⟨hf, h⟩ := Option.ite_none_right_eq_some.1 h
    cases h
    exact hf
  | _ => cases h

/-! ## The operations and the steps -/

theorem exec_transaction (hi : i.hostOp = some .writeRegisters ∨ i.hostOp = some .readRegisters) (s : State) :
    exec i s = andThen (issue i s) runTransaction := by
  cases i <;> simp [Instr.hostOp] at hi <;> rfl

theorem exec_select (hi : i.hostOp = some .selectIndex ∨ i.hostOp = some .selectSerial) (s : State) :
    exec i s = andThen (issue i s) runSelect := by
  cases i <;> simp [Instr.hostOp] at hi <;> rfl

theorem exec_discard (s : State) : exec .discard s = issue .discard s := rfl

/-- A host operation is a transaction, a select, or `DISCARD` (R28). -/
theorem hostOp_cases (hi : i.hostOp.isSome = true) :
    (i.hostOp = some .writeRegisters ∨ i.hostOp = some .readRegisters) ∨
      (i.hostOp = some .selectIndex ∨ i.hostOp = some .selectSerial) ∨ i = .discard := by
  cases i with
  | writeRegisters | readRegisters | selectIndex | selectSerial | discard => simp [Instr.hostOp]
  | _ => cases hi

/-- A host operation is its issue and then parts, in phases other than `IDLE`. -/
theorem exec_eq_runWhile (hi : i.hostOp.isSome = true) (s : State) :
    ∃ (within : Phase → Bool) (fuel : State → Nat), within .idle = false ∧
      exec i s = andThen (issue i s) fun u => runWhile within (fuel u) u := by
  obtain ht | hsel | rfl := hostOp_cases hi
  · exact ⟨inTransaction, fun _ => transactionParts, rfl, exec_transaction ht s⟩
  · exact ⟨inSelect, selectParts, rfl, exec_select hsel s⟩
  · refine ⟨fun _ => false, fun _ => 0, rfl, ?_⟩
    rw [exec_discard]
    cases issue .discard s <;> rfl

theorem step_request {rest : List Instr} (hp : s.phase = .idle) (hq : s.requests = i :: rest) :
    step s = runRequest i { s with requests := rest } := by
  rw [step, if_pos hp]
  simp only [takeRequest, hq]

theorem callStep_request {rest : List Instr} (hp : s.phase = .idle) (hq : s.requests = i :: rest) :
    callStep s = issue i { s with requests := rest } := by
  rw [callStep, if_pos hp]
  simp only [takeRequest, hq]

theorem step_noRequest (hp : s.phase = .idle) (hq : s.requests = []) : step s = .next s := by
  simp [step, hp, takeRequest, hq]

theorem callStep_noRequest (hp : s.phase = .idle) (hq : s.requests = []) : callStep s = .next s := by
  simp [callStep, hp, takeRequest, hq]

theorem step_busy (hp : s.phase ≠ .idle) : step s = phaseStep s := by rw [step, if_neg hp]

theorem callStep_busy (hp : s.phase ≠ .idle) : callStep s = phaseStep s := by rw [callStep, if_neg hp]

/-- What a step of either machine is: none without a request, the issue of the next request with parts that follow it,
or one part. -/
theorem step_or_callStep_next (h : step s = .next t ∨ callStep s = .next t) :
    (s.phase = .idle ∧ s.requests = [] ∧ t = s) ∨
    (s.phase = .idle ∧ ∃ i rest u within fuel, s.requests = i :: rest ∧ issue i { s with requests := rest } = .next u ∧
      runWhile within fuel u = .next t) ∨
    (s.phase ≠ .idle ∧ phaseStep s = .next t) := by
  by_cases hp : s.phase = .idle
  case neg => exact .inr (.inr ⟨hp, by simpa [step_busy hp, callStep_busy hp] using h⟩)
  cases hq : s.requests with
  | nil => exact .inl ⟨hp, rfl, by simpa [step_noRequest hp hq, callStep_noRequest hp hq, eq_comm] using h⟩
  | cons i rest =>
    refine .inr (.inl ⟨hp, i, rest, ?_⟩)
    rw [step_request hp hq, callStep_request hp hq, runRequest] at h
    obtain h | h := h
    · split at h
      case isFalse => cases h
      next hi =>
        obtain ⟨within, fuel, -, he⟩ := exec_eq_runWhile hi { s with requests := rest }
        rw [he] at h
        obtain ⟨u, hu, h⟩ := andThen_eq_next h
        exact ⟨u, within, fuel u, rfl, hu, h⟩
    · exact ⟨t, inSelect, 0, rfl, h, rfl⟩

theorem callStep_next (h : callStep s = .next t) :
    (s.phase = .idle ∧ s.requests = [] ∧ t = s) ∨
    (s.phase = .idle ∧ ∃ i rest, s.requests = i :: rest ∧ Issued { s with requests := rest } i t) ∨
    (s.phase ≠ .idle ∧ phaseStep s = .next t) := by
  by_cases hp : s.phase = .idle
  case neg => exact .inr (.inr ⟨hp, callStep_busy hp ▸ h⟩)
  cases hq : s.requests with
  | nil => rw [callStep_noRequest hp hq] at h; cases h; exact .inl ⟨hp, rfl, rfl⟩
  | cons i rest => rw [callStep_request hp hq] at h; exact .inr (.inl ⟨hp, i, rest, rfl, (issue_next h).2⟩)

/-! ## The parameters, the trace and the configuration -/

theorem phaseStep_params (h : phaseStep s = .next t) : t.params = s.params := by
  obtain ⟨rfl, -⟩ | h := phaseStep_next h
  · rfl
  · exact h.operandsKept.params

theorem Issued.params (h : Issued s i t) : t.params = s.params := by
  cases h with
  | transaction _ _ hl => obtain ⟨op, d, r, n, p, rfl⟩ := loaded_eq hl; rfl
  | _ => rfl

theorem Issued.calls (h : Issued s i t) : t.calls = s.calls := by
  cases h with
  | transaction _ _ hl => obtain ⟨op, d, r, n, p, rfl⟩ := loaded_eq hl; rfl
  | _ => rfl

/-- Settles O12: an issue and a part keep the parameters, to which the timeout registers are hardwired. -/
theorem hardwiredRegistersNeverChange : Obligations.HardwiredRegistersNeverChange := by
  intro s t h
  have hp : t.params = s.params := by
    obtain ⟨-, -, rfl⟩ | ⟨-, i, rest, u, within, fuel, -, hi, hr⟩ | ⟨-, h⟩ := step_or_callStep_next h
    · rfl
    · exact (runWhile_relates (R := fun a b => b.params = a.params) (fun _ => rfl) (fun _ _ _ h1 h2 => h2.trans h1)
        (fun _ _ => phaseStep_params) hr).trans (issue_next hi).2.params
    · exact phaseStep_params h
  exact ⟨by rw [State.readTimeoutMs, hp, State.readTimeoutMs], by rw [State.writeTimeoutMs, hp, State.writeTimeoutMs],
    hp, rfl, rfl⟩

/-- Settles O49: an issue makes no call, and a part at most one. -/
theorem oneCallAtATime : Obligations.OneCallAtATime := by
  intro s t h
  obtain ⟨-, -, rfl⟩ | ⟨-, i, rest, -, h⟩ | ⟨-, h⟩ := callStep_next h
  · exact .inl rfl
  · exact .inl h.calls
  · obtain ⟨rfl, -⟩ | h := phaseStep_next h
    · exact .inl rfl
    · exact h.calls

/-- Settles O50: outside a select no part configures, and of the requests only `DISCARD` does at its issue. -/
theorem onlySelectAndDiscardConfigure : Obligations.OnlySelectAndDiscardConfigure := by
  intro s t h hne
  have hkept : ¬ (t.configured = s.configured ∧ t.devIndex = s.devIndex) := fun ⟨hc, hd⟩ =>
    hne.elim (· hc) (· hd)
  obtain ⟨-, -, rfl⟩ | ⟨hp, i, rest, hq, h⟩ | ⟨-, h⟩ := callStep_next h
  · exact absurd ⟨rfl, rfl⟩ hkept
  · cases h with
    | discard => exact .inr ⟨hp, by rw [hq]; rfl⟩
    | transaction _ _ hl =>
      obtain ⟨op, d, r, n, p, rfl⟩ := loaded_eq hl
      exact absurd ⟨rfl, rfl⟩ hkept
    | _ => exact absurd ⟨rfl, rfl⟩ hkept
  · obtain ⟨rfl, -⟩ | h := phaseStep_next h
    · exact absurd ⟨rfl, rfl⟩ hkept
    · cases hs : inSelect s.phase with
      | true => exact .inl rfl
      | false => exact absurd (h.configuration hs) hkept

end Sys2Proof.Machine
end

section

/-! # The invariant (R21 to R34) -/

namespace Sys2Proof.Machine

variable {s t : State} {i : Instr}

/-! ## The parts of the invariant, carried from a state to one that agrees with it -/

/-- The part of the invariant that no phase changes. -/
structure Coherent (s : State) : Prop where
  handle : s.isOpen = s.handle.isSome
  index : s.configured = s.devIndex.isSome
  payload : ∀ p, s.payload = some p → p.length ≤ s.params.maxWritePayload ∧ p.length ≤ Config.maxEncodablePayload
  results : ResultsAgree s

theorem Inv.coherent (h : Inv s) : Coherent s := ⟨h.handle, h.index, h.payload, h.results⟩

theorem Coherent.inv (h : Coherent s) (hp : phaseInv s) : Inv s := ⟨h.handle, h.index, h.payload, h.results, hp⟩

theorem ResultsAgree.of_eq (h : ResultsAgree s) (herr : t.err = s.err := by rfl)
    (hinfo : t.errInfo = s.errInfo := by rfl) (hw : t.bytesWritten = s.bytesWritten := by rfl)
    (hr : t.rdata = s.rdata := by rfl) (hc : t.closeErr = s.closeErr := by rfl) : ResultsAgree t := by
  constructor
  · rw [herr, hinfo]; exact h.info
  · rw [herr, hw]; exact h.written
  · rw [herr, hr]; exact h.data
  · rw [herr, hc]; exact h.closeError

theorem Coherent.of_eq (h : Coherent s) (hr : ResultsAgree t) (ho : t.isOpen = s.isOpen := by rfl)
    (hh : t.handle = s.handle := by rfl) (hc : t.configured = s.configured := by rfl)
    (hd : t.devIndex = s.devIndex := by rfl) (hp : t.payload = s.payload := by rfl)
    (hpar : t.params = s.params := by rfl) : Coherent t := by
  constructor
  · rw [ho, hh]; exact h.handle
  · rw [hc, hd]; exact h.index
  · rw [hp, hpar]; exact h.payload
  · exact hr

theorem Fresh.of_eq (h : Fresh s) (herr : t.err = s.err := by rfl)
    (hinfo : t.errInfo = s.errInfo := by rfl) (hw : t.bytesWritten = s.bytesWritten := by rfl)
    (hr : t.rdata = s.rdata := by rfl) (hc : t.closeErr = s.closeErr := by rfl) : Fresh t :=
  ⟨herr.trans h.err, hinfo.trans h.info, hc.trans h.closeErr, hw.trans h.written, hr.trans h.data⟩

theorem NoTransfer.of_eq (h : NoTransfer s) (hp : t.pollCnt = s.pollCnt := by rfl) (ht : t.txbuf = s.txbuf := by rfl)
    (hr : t.rxbuf = s.rxbuf := by rfl) (hq : t.qstatus = s.qstatus := by rfl)
    (hd : t.setTimeoutsDue = s.setTimeoutsDue := by rfl) (hw : t.writeCount = s.writeCount := by rfl)
    (hs : t.checksum = s.checksum := by rfl) : NoTransfer t :=
  ⟨hp.trans h.polls, ht.trans h.tx, hr.trans h.rx, hq.trans h.status, hd.trans h.due, hw.trans h.count, hs.trans h.sum⟩

theorem InTransaction.of_eq (h : InTransaction s) (hc : t.configured = s.configured := by rfl)
    (hf : requestFrame t = requestFrame s := by rfl) (hi : t.scanIdx = s.scanIdx := by rfl)
    (hn : t.scanCount = s.scanCount := by rfl) (hfo : t.scanFound = s.scanFound := by rfl) : InTransaction t :=
  ⟨hc.trans h.configured, (congrArg Option.isSome hf).trans h.request,
    ⟨hi.trans h.scan.idx, hn.trans h.scan.count, hfo.trans h.scan.found⟩⟩

theorem InBody.of_eq (h : InBody s) (ht : InTransaction t) (hf : Fresh t) (ho : t.isOpen = s.isOpen := by rfl)
    (hd : t.setTimeoutsDue = s.setTimeoutsDue := by rfl) : InBody t :=
  { ht, hf with session := ho.trans h.session, due := hd.trans h.due }

/-- Whether a transaction has its result does not depend on the phase. -/
theorem HasResult.of_eq (h : HasResult s) (herr : t.err = s.err := by rfl) (hop : t.op = s.op := by rfl)
    (hf : requestFrame t = requestFrame s := by rfl) (hl : t.length = s.length := by rfl)
    (hw : t.bytesWritten = s.bytesWritten := by rfl) (hr : t.rdata = s.rdata := by rfl) : HasResult t := by
  unfold HasResult
  rw [herr, hop, hf, hl, hw, hr]
  exact h

theorem hasResult_of_err (h : s.err ≠ .none) : HasResult s := fun h0 => absurd h0 h

theorem InTransaction.isTransaction (h : InTransaction s) : isTransaction s = true := by
  obtain ⟨frame, hf⟩ := Option.isSome_iff_exists.1 h.request
  obtain ⟨body, hb, -⟩ := requestFrame_eq_some.1 hf
  exact isTransaction_of_requestBody hb

/-! ## Returning to `IDLE`, and errors -/

theorem goIdle_noScan (s : State) : NoScan (goIdle s) := ⟨rfl, rfl, rfl⟩

theorem goIdle_noTransfer (s : State) : NoTransfer (goIdle s) := ⟨rfl, rfl, rfl, rfl, rfl, rfl, rfl⟩

theorem inv_goIdle (h : Coherent s) (ho : s.isOpen = false) (hr : HasResult s) : Inv (goIdle s) :=
  (h.of_eq h.results.of_eq).inv ⟨ho, goIdle_noScan s, goIdle_noTransfer s, hr.of_eq⟩

theorem recordError_err_ne_none {e : ErrorCode} {info : Option ErrorInfo} (he : e ≠ .none) :
    (recordError e info s).err ≠ .none := by
  by_cases h : s.err = .none
  · rw [recordError_first _ _ _ h]; exact he
  · rw [recordError_later _ _ _ h]; exact h

theorem ResultsAgree.recordError {e : ErrorCode} {info : Option ErrorInfo} (h : ResultsAgree s) (he : e ≠ .none)
    (hi : infoFits e info) : ResultsAgree (recordError e info s) := by
  by_cases h0 : s.err = .none
  · rw [recordError_first _ _ _ h0]
    exact ⟨hi, fun _ => rfl, fun _ => rfl, fun _ => he⟩
  · rw [recordError_later _ _ _ h0]; exact h

theorem Coherent.recordError {e : ErrorCode} {info : Option ErrorInfo} (h : Coherent s) (he : e ≠ .none)
    (hi : infoFits e info) : Coherent (recordError e info s) :=
  h.of_eq (h.results.recordError he hi) (by simp) (by simp) (by simp) (by simp) (by simp) (by simp)

/-- An error of a select operation leads to a good idle state (R113, R214.4). -/
theorem inv_raise_select {e : ErrorCode} {info : Option ErrorInfo} (h : Coherent s) (ho : s.isOpen = false)
    (ht : isTransaction s = false) (he : e ≠ .none) (hi : infoFits e info) : Inv (raise e info s) := by
  rw [raise_notDue _ _ _ (by simp [closeDue, ht])]
  exact inv_goIdle (h.recordError he hi) (by simp [ho]) (hasResult_of_err (recordError_err_ne_none he))

theorem requestFrame_recordError (e : ErrorCode) (info : Option ErrorInfo) (s : State) :
    requestFrame (recordError e info s) = requestFrame s := by
  simp [requestFrame, requestBody]

/-- An error of a transaction leads to its close sequence, or, where no session is open, to a good idle state
(R214.3, R214.4). -/
theorem inv_raise_transaction {e : ErrorCode} {info : Option ErrorInfo} (h : Coherent s) (ht : InTransaction s)
    (hc : s.closeErr = 0) (hp : ∀ c, s.pollCnt = some c → c ≤ Config.pollLimit) (he : e ≠ .none)
    (hi : infoFits e info) : Inv (raise e info s) := by
  have herr := recordError_err_ne_none (s := s) (info := info) he
  cases hd : closeDue s with
  | true =>
    rw [raise_due _ _ _ hd]
    have hr := h.recordError he hi
    refine (hr.of_eq hr.results.of_eq).inv ?_
    have ht' : InTransaction (recordError e info s) :=
      ht.of_eq (by simp) (requestFrame_recordError e info s) (by simp) (by simp) (by simp)
    refine ⟨ht'.of_eq, hasResult_of_err herr, ?_, rfl, rfl, rfl, .inr ⟨herr, rfl⟩, fun _ => rfl, ?_⟩
    · simp [hc]
    · simpa using hp
  | false =>
    rw [raise_notDue _ _ _ hd]
    have ho : s.isOpen = false := by
      simp only [closeDue, ht.isTransaction, Bool.true_and, Bool.or_eq_false_iff] at hd
      exact hd.1
    exact inv_goIdle (h.recordError he hi) (by simp [ho]) (hasResult_of_err herr)

/-! ## What a good state is, phase by phase -/

/-- The phases of a transaction's body (R31). -/
def inBody (p : Phase) : Bool :=
  decide (p = .build) || decide (p = .flushing) || decide (p = .transmitting) || decide (p = .polling) ||
    decide (p = .waiting) || decide (p = .receiving) || decide (p = .checking)

theorem Inv.at_body (h : Inv s) (hp : inBody s.phase = true) :
    InBody s ∧ ∀ c, s.pollCnt = some c → c ≤ Config.pollLimit := by
  have hph := h.phase
  cases hs : s.phase <;> simp only [phaseInv, hs] at hph <;> simp [inBody, hs] at hp
  case build | flushing | transmitting => exact ⟨hph.1, fun c hc => by simp [hph.2.1] at hc⟩
  case polling =>
    obtain ⟨hb, -, -, -, c, hc, hq⟩ := hph
    refine ⟨hb, fun c' hc' => ?_⟩
    obtain rfl : c = c' := Option.some.inj (hc ▸ hc')
    omega
  case waiting | receiving | checking =>
    obtain ⟨hb, -, -, -, -, c, hc, hle⟩ := hph
    refine ⟨hb, fun c' hc' => ?_⟩
    obtain rfl : c = c' := Option.some.inj (hc ▸ hc')
    exact hle

/-- In a select operation the block is unconfigured and closed, and holds no error. -/
theorem Inv.at_select (h : Inv s) (hp : inSelect s.phase = true) :
    s.configured = false ∧ s.isOpen = false ∧ Fresh s ∧ NoTransfer s ∧
      (s.op = some .selectIndex ∨ s.op = some .selectSerial) := by
  have hph := h.phase
  cases hs : s.phase <;> simp only [phaseInv, hs] at hph <;> simp [inSelect, hs] at hp
  case enumCount =>
    obtain ⟨hc, ho, hf, hn, -, -, hop⟩ := hph
    exact ⟨hc, ho, hf, hn, hop.imp And.left And.left⟩
  case enumDesc =>
    obtain ⟨hc, ho, hf, hn, hop, -⟩ := hph
    exact ⟨hc, ho, hf, hn, .inr hop⟩

theorem isTransaction_of_select (h : s.op = some .selectIndex ∨ s.op = some .selectSerial) :
    isTransaction s = false := by
  obtain h | h := h <;> simp [isTransaction, h]

/-- Without a transaction in `OP` no transaction's result is asked for. -/
theorem hasResult_of_select (h : s.op = some .selectIndex ∨ s.op = some .selectSerial) : HasResult s :=
  fun _ => ⟨fun h1 => by simp [h1] at h, fun h1 => by simp [h1] at h⟩

/-! ## The parts keep the invariant -/

theorem Inv.raise_inSelect {e : ErrorCode} {info : Option ErrorInfo} {c : Call} {a : Transport} {k : Nat} (h : Inv s)
    (hp : inSelect s.phase = true) (he : e ≠ .none) (hi : infoFits e info) : Inv (raise e info (returned c a k s)) := by
  obtain ⟨-, ho, -, -, hop⟩ := h.at_select hp
  exact inv_raise_select (h.coherent.of_eq h.results.of_eq) ho (isTransaction_of_select hop) he hi

/-- A select that succeeds leaves a good idle state (R111, R112). -/
theorem Inv.configure_inSelect (h : Inv s) (hp : inSelect s.phase = true) (index : Nat) : Inv (configure index s) := by
  obtain ⟨-, ho, -, -, hop⟩ := h.at_select hp
  exact inv_goIdle (s := { s with devIndex := some index, configured := true })
    ⟨h.handle, rfl, h.payload, h.results.of_eq⟩ ho (hasResult_of_select hop)

theorem Inv.raise_inBody {e : ErrorCode} {info : Option ErrorInfo} {c : Call} {a : Transport} {k : Nat} (h : Inv s)
    (hp : inBody s.phase = true) (he : e ≠ .none) (hi : infoFits e info) :
    Inv (raise e info (returned c a k s)) := by
  obtain ⟨hb, hc⟩ := h.at_body hp
  exact inv_raise_transaction (h.coherent.of_eq h.results.of_eq) hb.toInTransaction.of_eq hb.closeErr hc he hi

theorem isBodyError_ne_none {e : ErrorCode} (h : isBodyError e = true) : e ≠ .none := by
  rintro rfl; simp [isBodyError] at h

/-- The awaited byte count, by the awaited payload count (R82). -/
theorem responseLength_of_payload {n : Nat} (h : responsePayload s = .ok n) :
    responseLength s = some (Config.respOverhead + n) := by
  obtain ⟨ho, rfl⟩ | ⟨k, ho, hk, rfl⟩ := responsePayload_ok h
  · simp [responseLength, ho]
  · simp [responseLength, ho, hk]

/-- A response taken leads to the close sequence, with the result (R127, R142, R157). -/
theorem Inv.responseTaken (h : Inv s) (hp : s.phase = .checking) (written : Option Nat) (data : Option (List Byte))
    (hr : HasResult { s with bytesWritten := written, rdata := data }) :
    Inv (responseTaken { s with bytesWritten := written, rdata := data }) := by
  have hph := h.phase
  simp only [phaseInv, hp] at hph
  obtain ⟨hbody, htx, -, -, hq, -⟩ := hph
  obtain ⟨-, hc⟩ := h.at_body (by simp [inBody, hp])
  have hres : ResultsAgree (Machine.responseTaken { s with bytesWritten := written, rdata := data }) :=
    ⟨h.results.info, fun he => absurd hbody.err he, fun he => absurd hbody.err he, h.results.closeError⟩
  exact (h.coherent.of_eq hres).inv ⟨hbody.toInTransaction.of_eq, hr.of_eq, hbody.closeErr, htx, rfl, hq,
    .inl hbody.session, fun _ => hbody.due, hc⟩

/-- A failing `close` is the outcome of an operation without an error, and no result is left (R127, R214.2). -/
theorem closeOutcome_fails {st : Status} (hst : st ≠ 0) (h : s.err = .none) :
    closeOutcome st s = { s with
      closeErr := st, err := .driverError, errInfo := some (.status st), bytesWritten := none, rdata := none } := by
  simp [closeOutcome, hst, h]

theorem closeOutcome_keeps {st : Status} (h : ¬ (st ≠ 0 ∧ s.err = .none)) :
    closeOutcome st s = { s with closeErr := st } := by
  simp only [closeOutcome, if_neg h]

theorem ResultsAgree.closeOutcome (h : ResultsAgree s) (st : Status) : ResultsAgree (closeOutcome st s) := by
  by_cases hc : st ≠ 0 ∧ s.err = .none
  · rw [closeOutcome_fails hc.1 hc.2]
    exact ⟨hc.1, fun _ => rfl, fun _ => rfl, fun _ => by simp⟩
  · rw [closeOutcome_keeps hc]
    exact ⟨h.info, h.written, h.data, fun h0 he => hc ⟨h0, he⟩⟩

theorem HasResult.closeOutcome (h : HasResult s) (st : Status) : HasResult (closeOutcome st s) := by
  by_cases hc : st ≠ 0 ∧ s.err = .none
  · rw [closeOutcome_fails hc.1 hc.2]
    exact hasResult_of_err (by simp)
  · rw [closeOutcome_keeps hc]
    exact h.of_eq

/-- Every part keeps the invariant: phase by phase, what the next phase asks for is what this phase has, but for what
the part has written. -/
theorem Part.inv (h : Part s t) (hI : Inv s) : Inv t := by
  have hco := hI.coherent
  have hph := hI.phase
  cases h with
  | @counted a k count hp hn =>
    cases hs : s.phase <;> simp only [phaseInv, hs] at hph <;> simp [inSelect, hs] at hp
    case enumCount =>
      obtain ⟨hc, ho, hf, hnt, hi, hfo, hop⟩ := hph
      refine (hco.of_eq hco.results.of_eq).inv ?_
      simp only [phaseInv, returned, hs]
      exact ⟨hc, ho, hf.of_eq, hnt.of_eq, hi, hfo, hop⟩
    case enumDesc =>
      obtain ⟨-, -, -, -, -, -, i, c, -, hc, -⟩ := hph
      simp [hc] at hn
  | countFailed hp _ hst => exact hI.raise_inSelect hp (by decide) hst
  | indexChosen hp => exact hI.configure_inSelect (by simp [inSelect, hp]) _
  | indexOutOfRange hp =>
    obtain ⟨-, ho, -, -, hop⟩ := hI.at_select (by simp [inSelect, hp])
    exact inv_raise_select hco ho (isTransaction_of_select hop) (by decide) trivial
  | scanStarted hp hc ho =>
    simp only [phaseInv, hp] at hph
    obtain ⟨hcf, hopen, hf, hnt, -, -, hop⟩ := hph
    obtain ⟨hop, -⟩ | ⟨hop, hser⟩ := hop
    · simp [ho] at hop
    exact (hco.of_eq hco.results.of_eq).inv
      ⟨hcf, hopen, hf.of_eq, hnt.of_eq, hop, hser, 0, _, rfl, hc, Nat.zero_le _, fun _ h => by cases h⟩
  | @described a k i count want value hp hi hc hlt hd =>
    simp only [phaseInv, hp] at hph
    obtain ⟨hcf, hopen, hf, hnt, hop, hser, i', count', hi', hc', hle, hfound⟩ := hph
    obtain rfl : i = i' := Option.some.inj (hi ▸ hi')
    obtain rfl : count = count' := Option.some.inj (hc ▸ hc')
    refine (hco.of_eq hco.results.of_eq).inv ?_
    simp only [phaseInv, scanned, returned, hp]
    refine ⟨hcf, hopen, hf.of_eq, hnt.of_eq, hop, hser, i + 1, count, rfl, hc, hlt, fun found h => ?_⟩
    split at h
    · cases h; omega
    · have := hfound found h; omega
  | descriptorFailed hp _ _ _ hst => exact hI.raise_inSelect (by simp [inSelect, hp]) (by decide) hst
  | serialFound hp => exact hI.configure_inSelect (by simp [inSelect, hp]) _
  | serialNotFound hp =>
    obtain ⟨-, ho, -, -, hop⟩ := hI.at_select (by simp [inSelect, hp])
    exact inv_raise_select hco ho (isTransaction_of_select hop) (by decide) trivial
  | @opened a k index h hp hd ho =>
    refine Coherent.inv ⟨rfl, hco.index, hco.payload, hco.results.of_eq⟩ ?_
    obtain hp | ⟨hp, hm⟩ := hp
    · simp only [phaseInv, hp] at hph
      obtain ⟨ht, hf, -, hpc, htx, hrx, hq, hw, hs⟩ := hph
      simp only [phaseInv, returned, hp]
      exact ⟨ht.of_eq, hf.of_eq, trivial, hpc, htx, hrx, hq, hw, hs⟩
    · simp only [phaseInv, hp] at hph
      obtain ⟨ht, hr, hce, htx, hrx, hq, -, -, hpc⟩ := hph
      simp only [phaseInv, returned, hp]
      exact ⟨ht.of_eq, hr.of_eq, hce, htx, hrx, hq, .inl trivial, fun h => by simp [hm] at h, hpc⟩
  | openFailed hp _ _ hst =>
    simp only [phaseInv, hp] at hph
    obtain ⟨ht, hf, -, hpc, -⟩ := hph
    exact inv_raise_transaction (hco.of_eq hco.results.of_eq) ht.of_eq hf.closeErr
      (fun c hc => by simp [returned, hpc] at hc) (by decide) hst
  | timeoutsSet hp hd =>
    simp only [phaseInv, hp] at hph
    obtain ⟨ht, hf, ho, hpc, htx, hrx, hq, hw, -⟩ := hph
    exact (hco.of_eq hco.results.of_eq).inv
      ⟨{ ht.of_eq, hf.of_eq with session := ho.trans hd, due := rfl }, hpc, htx, hrx, hq, hw⟩
  | timeoutsFailed hp _ hst =>
    simp only [phaseInv, hp] at hph
    obtain ⟨ht, hf, -, hpc, -⟩ := hph
    exact inv_raise_transaction (hco.of_eq hco.results.of_eq) ht.of_eq hf.closeErr
      (fun c hc => by simp [returned, hpc] at hc) (by decide) hst
  | alreadyOpen hp hd ho =>
    simp only [phaseInv, hp] at hph
    obtain ⟨-, -, hod, -⟩ := hph
    simp [ho, hd] at hod
  | @reopenFailed a k index h st hp hm hst =>
    simp only [phaseInv, hp] at hph
    obtain ⟨ht, hr, hce, htx, hrx, hq, ho, hd, hpc⟩ := hph
    have hd : s.setTimeoutsDue = false := hm.elim hd And.left
    exact (hco.of_eq hco.results.of_eq).inv
      ⟨ht.of_eq, hr.of_eq, hce, htx, hrx, hq, hd, ho.imp_right And.left, hpc⟩
  | reopenTimeouts hp =>
    simp only [phaseInv, hp] at hph
    obtain ⟨ht, hr, hce, htx, hrx, hq, ho, -, hpc⟩ := hph
    exact (hco.of_eq hco.results.of_eq).inv
      ⟨ht.of_eq, hr.of_eq, hce, htx, hrx, hq, rfl, ho.imp_right And.left, hpc⟩
  | reopenSkipped hp _ hd =>
    simp only [phaseInv, hp] at hph
    obtain ⟨ht, hr, hce, htx, hrx, hq, ho, -, hpc⟩ := hph
    exact (hco.of_eq hco.results.of_eq).inv
      ⟨ht.of_eq, hr.of_eq, hce, htx, hrx, hq, hd, ho.imp_right And.left, hpc⟩
  | reopenedAlways hp hm =>
    simp only [phaseInv, hp] at hph
    obtain ⟨ht, hr, hce, htx, hrx, hq, -, hd, hpc⟩ := hph
    exact Coherent.inv ⟨rfl, hco.index, hco.payload, hco.results.of_eq⟩
      ⟨ht.of_eq, hr.of_eq, hce, htx, hrx, hq, hd hm, .inl rfl, hpc⟩
  | built hp hb =>
    simp only [phaseInv, hp] at hph
    obtain ⟨hbody, hpc, -, hrx, hq, hw⟩ := hph
    have hframe : requestFrame s = some (withChecksum _) := requestFrame_eq_some.2 ⟨_, hb, rfl⟩
    exact (hco.of_eq hco.results.of_eq).inv
      ⟨hbody.of_eq hbody.toInTransaction.of_eq hbody.toFresh.of_eq, hpc, hframe.symm, hrx, hq, hw⟩
  | flushed hp =>
    simp only [phaseInv, hp] at hph
    obtain ⟨hbody, hpc, htx, hrx, hq, hw⟩ := hph
    exact (hco.of_eq hco.results.of_eq).inv
      ⟨hbody.of_eq hbody.toInTransaction.of_eq hbody.toFresh.of_eq, hpc, htx, hrx, hq, hw⟩
  | sent hp hf =>
    simp only [phaseInv, hp] at hph
    obtain ⟨hbody, -, htx, hrx, -, -⟩ := hph
    refine (hco.of_eq hco.results.of_eq).inv
      ⟨hbody.of_eq hbody.toInTransaction.of_eq hbody.toFresh.of_eq, rfl, hrx, ?_, 0, rfl, .inl ⟨rfl, by decide⟩⟩
    exact congrArg (Option.map List.length) (hf.symm.trans htx)
  | @polledOnce a k h polls available code hp hq hc =>
    simp only [phaseInv, hp] at hph
    obtain ⟨hbody, htx, hrx, hw, c, hc', hqc⟩ := hph
    obtain rfl : polls = c := Option.some.inj (hc ▸ hc')
    refine (hco.of_eq hco.results.of_eq).inv ?_
    simp only [phaseInv, polled, returned, hp]
    refine ⟨hbody.of_eq hbody.toInTransaction.of_eq hbody.toFresh.of_eq, htx, hrx, hw, polls + 1, rfl, .inr ⟨rfl, ?_⟩⟩
    simp [hq] at hqc
    omega
  | @decided code hp hq =>
    simp only [phaseInv, hp] at hph
    obtain ⟨hbody, htx, hrx, hw, c, hc, hqc⟩ := hph
    have hle : c ≤ Config.pollLimit := by omega
    have hbody' : InBody (pollDecided code s) := hbody.of_eq hbody.toInTransaction.of_eq hbody.toFresh.of_eq
    refine (hco.of_eq hco.results.of_eq).inv ?_
    cases hr : isReady code <;> simp only [phaseInv, pollDecided, hr] at hbody' ⊢ <;>
      exact ⟨hbody', htx, hrx, hw, trivial, c, hc, hle⟩
  | @waited a k polls hp hc hl =>
    simp only [phaseInv, hp] at hph
    obtain ⟨hbody, htx, hrx, hw, hq, c, hc', hle⟩ := hph
    obtain rfl : polls = c := Option.some.inj (hc ▸ hc')
    exact (hco.of_eq hco.results.of_eq).inv
      ⟨hbody.of_eq hbody.toInTransaction.of_eq hbody.toFresh.of_eq, htx, hrx, hw, polls, hc,
        .inl ⟨hq, Nat.lt_of_le_of_ne hle hl⟩⟩
  | received hp hn hl =>
    simp only [phaseInv, hp] at hph
    obtain ⟨hbody, htx, hrx, hw, hq, hc⟩ := hph
    refine (hco.of_eq hco.results.of_eq).inv
      ⟨hbody.of_eq hbody.toInTransaction.of_eq hbody.toFresh.of_eq, htx, ?_, hw, hq, hc⟩
    exact (congrArg some hl).trans (responseLength_of_payload hn).symm
  | @writeAnswered n hp ho hn =>
    simp only [phaseInv, hp] at hph
    obtain ⟨hbody, -, -, hw, -⟩ := hph
    refine hI.responseTaken hp (some n) s.rdata fun _ => ⟨fun _ => ⟨?_, hbody.data⟩, fun h => by simp [ho] at h⟩
    obtain ⟨frame, hf⟩ := Option.isSome_iff_exists.1 hbody.request
    rw [hf, Option.map_some] at hw
    rw [writtenCount_kept hw] at hn
    cases hn
    exact congrArg (Option.map List.length) hf.symm
  | @readAnswered payload n hp ho hn hl =>
    obtain ⟨hbody, -⟩ := hI.at_body (by simp [inBody, hp])
    refine hI.responseTaken hp s.bytesWritten (some payload) fun _ =>
      ⟨fun h => by simp [ho] at h, fun _ => ⟨hbody.written, ?_⟩⟩
    simp [hn, hl]
  | callFailed hp _ _ he hi =>
    exact hI.raise_inBody (by obtain hp | hp | hp := hp <;> simp [inBody, hp]) (isBodyError_ne_none he) hi
  | @pollFailed a k h polls available code st hp hq hc ho hst =>
    simp only [phaseInv, hp] at hph
    obtain ⟨hbody, -, -, -, c, hc', hqc⟩ := hph
    obtain rfl : polls = c := Option.some.inj (hc ▸ hc')
    refine inv_raise_transaction (hco.of_eq hco.results.of_eq) hbody.toInTransaction.of_eq hbody.closeErr ?_
      (by decide) hst
    rintro c' ⟨⟩
    simp [hq] at hqc
    omega
  | timedOut hp => exact hI.raise_inBody (by simp [inBody, hp]) (by decide) trivial
  | checkFailed hp he hi =>
    obtain ⟨hb, hc⟩ := hI.at_body (by simp [inBody, hp])
    exact inv_raise_transaction hco hb.toInTransaction hb.closeErr hc (isBodyError_ne_none he) hi
  | @closed a k st draws hp =>
    simp only [phaseInv, hp] at hph
    obtain ⟨ht, hr, hce, htx, hrx, hq, hd, ho, hpc⟩ := hph
    exact inv_goIdle ⟨rfl, hco.index, hco.payload, hco.results.of_eq.closeOutcome st⟩ rfl (hr.of_eq.closeOutcome st)

/-! ## Reset, the issue and the steps -/

theorem discarded_inv (s : State) : Inv (discarded s) :=
  Coherent.inv ⟨rfl, rfl, fun _ h => (nomatch h), ⟨trivial, fun _ => rfl, fun _ => rfl, fun h => absurd rfl h⟩⟩
    ⟨rfl, ⟨rfl, rfl, rfl⟩, ⟨rfl, rfl, rfl, rfl, rfl, rfl, rfl⟩, fun _ => ⟨fun h => (nomatch h), fun h => (nomatch h)⟩⟩

/-- Settles O45: discarding the reset state gives it back, and a discarded block is good. -/
theorem resetIsGood : Obligations.ResetIsGood := discarded_inv State.reset

theorem beginOperation_resultsAgree (p : Phase) (s : State) : ResultsAgree (beginOperation p s) :=
  ⟨trivial, fun _ => rfl, fun _ => rfl, fun h => absurd rfl h⟩

theorem beginOperation_fresh (p : Phase) (s : State) : Fresh (beginOperation p s) := ⟨rfl, rfl, rfl, rfl, rfl⟩

theorem Inv.at_idle (h : Inv s) (hp : s.phase = .idle) :
    s.isOpen = false ∧ NoScan s ∧ NoTransfer s ∧ HasResult s := by
  have hph := h.phase
  simpa only [phaseInv, hp] using hph

/-- Loading operands keeps `PAYLOAD` within its bound (R28, R93). -/
theorem loaded_coherent {s1 : State} (h : Coherent s) (hl : loaded i s = some s1) : Coherent s1 := by
  cases i with
  | writeRegisters dev reg payload =>
    obtain ⟨⟨d, r, p⟩, ho, rfl⟩ := Option.map_eq_some_iff.1 hl
    obtain ⟨-, -, -, hfits⟩ := writeOperands_some.1 ho
    exact ⟨h.handle, h.index, fun p' hp' => by cases hp'; exact hfits, h.results.of_eq⟩
  | readRegisters dev reg length =>
    obtain ⟨o, -, rfl⟩ := Option.map_eq_some_iff.1 hl
    exact h.of_eq h.results.of_eq
  | transact =>
    obtain ⟨-, hl⟩ := Option.ite_none_right_eq_some.1 hl
    cases hl
    exact h
  | _ => cases hl

/-- A transaction whose operands are loaded begins in a good state (R127). -/
theorem Inv.begin_transaction {s1 : State} (h : Inv s) (hp : s.phase = .idle) (hc : s.configured = true)
    (hl : loaded i s = some s1) : Inv (beginOperation .opening s1) := by
  have hco := loaded_coherent h.coherent hl
  have hframe := loaded_requestFrame hl
  obtain ⟨op, d, r, n, p, rfl⟩ := loaded_eq hl
  obtain ⟨ho, hs, ht, -⟩ := h.at_idle hp
  exact (hco.of_eq (beginOperation_resultsAgree _ _)).inv
    ⟨⟨hc, hframe, ⟨hs.idx, hs.count, hs.found⟩⟩, beginOperation_fresh _ _, ho.trans ht.due.symm, ht.polls, ht.tx, ht.rx,
      ht.status, ht.count, ht.sum⟩

/-- The issue of a request keeps the invariant. -/
theorem Issued.inv (h : Issued s i t) (hI : Inv s) (hp : s.phase = .idle) : Inv t := by
  obtain ⟨ho, hs, ht, -⟩ := hI.at_idle hp
  have hco := hI.coherent
  cases h with
  | transaction _ hc hl => exact hI.begin_transaction hp hc hl
  | selectIndex hc =>
    exact (hco.of_eq (beginOperation_resultsAgree _ _)).inv
      ⟨hc, ho, beginOperation_fresh _ _, ht.of_eq, hs.idx, hs.found, .inl ⟨rfl, rfl⟩⟩
  | selectSerial hc =>
    exact (hco.of_eq (beginOperation_resultsAgree _ _)).inv
      ⟨hc, ho, beginOperation_fresh _ _, ht.of_eq, hs.idx, hs.found, .inr ⟨rfl, rfl⟩⟩
  | discard => exact discarded_inv s

theorem phaseStep_inv (hI : Inv s) (h : phaseStep s = .next t) : Inv t := by
  obtain ⟨rfl, -⟩ | h := phaseStep_next h
  · exact hI
  · exact h.inv hI

theorem runWhile_inv {within : Phase → Bool} {fuel : Nat} (hI : Inv s) (h : runWhile within fuel s = .next t) : Inv t :=
  runWhile_keeps (fun _ _ => phaseStep_inv) hI h

/-- The host's queue is no matter of the invariant. -/
theorem Inv.withRequests (h : Inv s) (hp : s.phase = .idle) (q : List Instr) : Inv { s with requests := q } := by
  obtain ⟨ho, hs, ht, hr⟩ := h.at_idle hp
  refine (h.coherent.of_eq h.results.of_eq).inv ?_
  simp only [phaseInv, hp]
  exact ⟨ho, ⟨hs.idx, hs.count, hs.found⟩, ht.of_eq, hr.of_eq⟩

/-- Settles O46: an issue keeps the invariant, and so does every part that follows it. -/
theorem stepKeepsTheInvariant : Obligations.StepKeepsTheInvariant := by
  intro s t hI h
  obtain ⟨-, -, rfl⟩ | ⟨hp, i, rest, u, within, fuel, -, hi, hr⟩ | ⟨-, h⟩ := step_or_callStep_next h
  · exact hI
  · exact runWhile_inv ((issue_next hi).2.inv (hI.withRequests hp rest) hp) hr
  · exact phaseStep_inv hI h

/-! ## Going on -/

/-- An error of the body leads to the close sequence: its session is open (R214.3). -/
theorem Inv.raise_body_phase {e : ErrorCode} {info : Option ErrorInfo} (h : Inv s) (hp : inBody s.phase = true)
    (hd : closeDue t = closeDue s := by rfl) : (raise e info t).phase = .reopening := by
  obtain ⟨hb, -⟩ := h.at_body hp
  rw [raise_phase, hd, closeDue, hb.toInTransaction.isTransaction, hb.session]
  rfl

/-- An error of a select operation leads to `IDLE` (R214.4). -/
theorem Inv.raise_select_phase {e : ErrorCode} {info : Option ErrorInfo} (h : Inv s) (hp : inSelect s.phase = true)
    (hd : closeDue t = closeDue s := by rfl) : (raise e info t).phase = .idle := by
  obtain ⟨-, -, -, -, hop⟩ := h.at_select hp
  rw [raise_phase, hd, closeDue, isTransaction_of_select hop]
  rfl

/-- A part that goes on leaves its phase for a successor, or stays in it and has made a call (R31). -/
theorem Part.moves (h : Part s t) (hI : Inv s) :
    t.phase ∈ successors s.phase ∨ t.phase = s.phase ∧ t.calls ≠ s.calls := by
  cases h with
  | counted | described | polledOnce => exact .inr ⟨rfl, by simp [returned, scanned]⟩
  | opened => exact .inr ⟨rfl, by simp [returned]⟩
  | countFailed hp =>
    rw [raiseDriver, hI.raise_select_phase hp]
    obtain hp | hp : s.phase = .enumCount ∨ s.phase = .enumDesc := by simpa [inSelect] using hp
    all_goals simp [hp, successors]
  | indexOutOfRange hp =>
    rw [hI.raise_select_phase (by simp [inSelect, hp])]
    simp [hp, successors]
  | descriptorFailed hp =>
    rw [raiseDriver, hI.raise_select_phase (by simp [inSelect, hp])]
    simp [hp, successors]
  | serialNotFound hp =>
    rw [hI.raise_select_phase (by simp [inSelect, hp])]
    simp [hp, successors]
  | openFailed hp | timeoutsFailed hp =>
    rw [raiseDriver, raise_phase, hp]
    split <;> simp [successors]
  | callFailed hp =>
    rw [hI.raise_body_phase (by obtain hp | hp | hp := hp <;> simp [inBody, hp])]
    obtain hp | hp | hp := hp <;> simp [hp, successors]
  | pollFailed hp =>
    rw [raiseDriver, hI.raise_body_phase (by simp [inBody, hp])]
    simp [hp, successors]
  | timedOut hp =>
    rw [hI.raise_body_phase (by simp [inBody, hp])]
    simp [hp, successors]
  | checkFailed hp =>
    rw [hI.raise_body_phase (by simp [inBody, hp])]
    simp [hp, successors]
  | @decided code hp =>
    cases hr : isReady code <;> simp [hp, successors, pollDecided, hr]
  | indexChosen hp | scanStarted hp | serialFound hp | timeoutsSet hp | alreadyOpen hp | reopenFailed hp
    | reopenTimeouts hp | reopenSkipped hp | reopenedAlways hp | built hp | flushed hp | sent hp | waited hp
    | received hp | writeAnswered hp | readAnswered hp | closed hp =>
    simp [hp, successors, closedWith]

/-- A part that goes on changes the state. -/
theorem Part.ne (h : Part s t) (hI : Inv s) : t ≠ s := by
  rintro rfl
  obtain hm | ⟨-, hm⟩ := h.moves hI
  · generalize t.phase = p at hm
    cases p <;> simp [successors] at hm
  · exact hm rfl

theorem InBody.sessionOpen (h : InBody s) (hI : Inv s) : ∃ hd, SessionOpen s hd := by
  obtain ⟨hd, hh⟩ := Option.isSome_iff_exists.1 (hI.handle ▸ h.session)
  exact ⟨hd, h.session, hh⟩

/-- A transaction in a good state awaits a payload count (R82, R89). -/
theorem InTransaction.responsePayload (h : InTransaction s) : ∃ n, responsePayload s = .ok n := by
  obtain ⟨frame, hf⟩ := Option.isSome_iff_exists.1 h.request
  obtain ⟨body, hb, -⟩ := requestFrame_eq_some.1 hf
  obtain ⟨d, r, -, -, ⟨p, ho, -⟩ | ⟨n, ho, hn, -⟩⟩ := requestBody_ok hb
  · exact ⟨0, by simp [Machine.responsePayload, ho]⟩
  · exact ⟨n.toNat, by simp [Machine.responsePayload, ho, hn]⟩

theorem openPrimitive_ne_refused {index : Nat} (hi : s.devIndex = some index) (r : Refusal) :
    openPrimitive s ≠ .refused r := by
  simp only [openPrimitive, hi, held_some]
  split
  · simp
  · split <;> simp

/-- The registers that `OPEN_SESSION` reads hold values where a device is selected and `set_timeouts` is due in an open
session only (R21, R125). -/
theorem openSessionCall_ne_refused {index : Nat} (hi : s.devIndex = some index)
    (hd : s.setTimeoutsDue = true → s.handle.isSome = true) (r : Refusal) : openSessionCall s ≠ .refused r := by
  unfold openSessionCall
  split
  next hdue =>
    obtain ⟨h, hh⟩ := Option.isSome_iff_exists.1 (hd hdue)
    simp only [setTimeoutsPrimitive, hh, held_some]
    split
    · simp
    · split <;> simp
  · split
    · simp
    · split
      · simp
      · exact openPrimitive_ne_refused hi r

theorem enumerateCall_answers (s : State) : ∃ t, enumerateCall s = .next t := by
  unfold enumerateCall
  split <;> exact ⟨_, rfl⟩

theorem closeCall_answers (s : State) : ∃ t, closeCall s = .next t := by
  unfold closeCall
  split <;> exact ⟨_, rfl⟩

/-- A response of the awaited length is answered: taken, or an error of the acknowledgement (R176). -/
theorem Inv.checkCall_answers (h : Inv s) (hp : s.phase = .checking) : ∃ t, checkCall s = .next t := by
  have hph := h.phase
  simp only [phaseInv, hp] at hph
  obtain ⟨hb, -, hrx, hw, -⟩ := hph
  obtain ⟨n, hn⟩ := hb.toInTransaction.responsePayload
  rw [responseLength_of_payload hn, Option.map_eq_some_iff] at hrx
  obtain ⟨bytes, hrx, hl⟩ := hrx
  obtain ⟨b, h7⟩ : ∃ b, bytes[7]? = some b :=
    ⟨bytes[7]'(by rw [hl, Config.respOverhead]; omega), List.getElem?_eq_getElem _⟩
  by_cases hack : b = Config.ack
  case neg => exact ⟨_, checkCall_badAck hrx h7 hack⟩
  subst hack
  obtain ⟨ho, rfl⟩ | ⟨k, ho, hk, rfl⟩ := responsePayload_ok hn
  · obtain ⟨frame, hf⟩ := Option.isSome_iff_exists.1 hb.request
    rw [hf] at hw
    exact ⟨_, checkCall_write hp ho hrx hl hw h7⟩
  · exact ⟨_, checkCall_read hp ho hrx hk hl h7⟩

/-- In a good state the part of an operation is answered (R21). -/
theorem Inv.phaseStep_answers (h : Inv s) : ∃ t, phaseStep s = .next t := by
  have hph := h.phase
  cases hp : s.phase <;> simp only [phaseInv, hp] at hph
  case idle => exact ⟨s, phaseStep_idle hp⟩
  case enumCount =>
    obtain ⟨-, -, -, -, -, -, hop⟩ := hph
    rw [phaseStep_enumCount hp, countCall]
    split
    · exact enumerateCall_answers s
    · obtain ⟨ho, hi⟩ | ⟨ho, -⟩ := hop
      · obtain ⟨index, hi⟩ := Option.isSome_iff_exists.1 hi
        simp only [selectDecision, ho, hi, reading_some]
        exact ⟨_, rfl⟩
      · simp only [selectDecision, ho]
        exact ⟨_, rfl⟩
  case enumDesc =>
    obtain ⟨-, -, -, -, -, hser, i, count, hi, hc, -⟩ := hph
    obtain ⟨want, hser⟩ := Option.isSome_iff_exists.1 hser
    rw [phaseStep_enumDesc hp, descriptorCall]
    simp only [hi, hser, hc, reading_some]
    split
    · split <;> exact ⟨_, rfl⟩
    · exact ⟨_, rfl⟩
  case opening =>
    obtain ⟨ht, -, ho, -⟩ := hph
    obtain ⟨index, hi⟩ := Option.isSome_iff_exists.1 (h.index ▸ ht.configured)
    have hr := openSessionCall_ne_refused hi (fun hd => h.handle ▸ ho.trans hd)
    rw [phaseStep_opening hp, openCall]
    split
    case h_4 r hr' => exact absurd hr' (hr r)
    all_goals exact ⟨_, rfl⟩
  case build =>
    obtain ⟨hb, -⟩ := hph
    obtain ⟨frame, hf⟩ := Option.isSome_iff_exists.1 hb.request
    exact ⟨_, buildCall_loads hp hf⟩
  case flushing =>
    obtain ⟨hb, -⟩ := hph
    obtain ⟨hd, hs⟩ := hb.sessionOpen h
    rw [phaseStep_flushing hp, flushCall, withSession_open hs.handle hs.session]
    split <;> exact ⟨_, rfl⟩
  case transmitting =>
    obtain ⟨hb, -, htx, -⟩ := hph
    obtain ⟨hd, hs⟩ := hb.sessionOpen h
    obtain ⟨frame, hf⟩ := Option.isSome_iff_exists.1 hb.request
    rw [phaseStep_transmitting hp, transmitCall, htx.trans hf, reading_some, withSession_open hs.handle hs.session]
    split <;> exact ⟨_, rfl⟩
  case polling =>
    obtain ⟨hb, -, -, -, c, hc, -⟩ := hph
    obtain ⟨hd, hs⟩ := hb.sessionOpen h
    rw [phaseStep_polling hp, pollCall]
    split
    · exact ⟨_, rfl⟩
    · rw [hc, reading_some, withSession_open hs.handle hs.session]
      split <;> exact ⟨_, rfl⟩
  case waiting =>
    obtain ⟨-, -, -, -, -, c, hc, -⟩ := hph
    rw [phaseStep_waiting hp, waitCall, hc, reading_some]
    split <;> exact ⟨_, rfl⟩
  case receiving =>
    obtain ⟨hb, -⟩ := hph
    obtain ⟨hd, hs⟩ := hb.sessionOpen h
    obtain ⟨n, hn⟩ := hb.toInTransaction.responsePayload
    rw [phaseStep_receiving hp, receiveResponse, hn]
    simp only [receiveCall, withSession_open hs.handle hs.session]
    split <;> exact ⟨_, rfl⟩
  case checking =>
    rw [phaseStep_checking hp]
    exact h.checkCall_answers hp
  case reopening =>
    obtain ⟨ht, -, -, -, -, -, ho, -⟩ := hph
    obtain ⟨index, hi⟩ := Option.isSome_iff_exists.1 (h.index ▸ ht.configured)
    have hdue : s.setTimeoutsDue = true → s.handle.isSome = true := fun hd =>
      h.handle ▸ ho.elim id fun ⟨_, hd'⟩ => by simp [hd] at hd'
    rw [phaseStep_reopening hp, reopenCall]
    split
    · split
      case h_4 r hr' => exact absurd hr' (openSessionCall_ne_refused hi hdue r)
      all_goals exact ⟨_, rfl⟩
    · split
      case h_4 r hr' => exact absurd hr' (openPrimitive_ne_refused hi r)
      all_goals exact ⟨_, rfl⟩
  case closing =>
    rw [phaseStep_closing hp]
    exact closeCall_answers s

/-- Settles O47: the part is answered; a part that goes on changes the state, one that does not waits for its call. -/
theorem operationsAlwaysGoOn : Obligations.OperationsAlwaysGoOn := by
  intro s hI hp
  obtain ⟨t, ht⟩ := hI.phaseStep_answers
  refine ⟨t, step_busy hp ▸ ht, ?_, fun ha => ?_⟩
  · rintro rfl
    obtain ⟨-, hs⟩ | hpart := phaseStep_next ht
    · simpa [settled, hp] using hs
    · exact absurd rfl (hpart.ne hI)
  · rw [phaseStep_awaiting ha] at ht
    cases ht
    rfl

/-- Settles O48: a request's issue leads to the first phase of its operation, and of the parts `Part.moves` says it. -/
theorem phasesFollowTheOrder : Obligations.PhasesFollowTheOrder := by
  intro s t hI h
  obtain ⟨-, -, rfl⟩ | ⟨hp, i, rest, -, h⟩ | ⟨-, h⟩ := callStep_next h
  · exact .inl rfl
  · cases h with
    | discard => exact .inl hp.symm
    | _ => exact .inr (by simp [hp, successors, beginOperation])
  · obtain ⟨rfl, -⟩ | h := phaseStep_next h
    · exact .inl rfl
    · exact (h.moves hI).symm.imp_left And.left

end Sys2Proof.Machine
end

section

/-! # The micro-steps, the session calls and the refusals, each as an instruction of its own -/

namespace Sys2Proof.Machine

variable {s t : State} {i : Instr} {h : Handle}

/-! ## The handshake micro-steps (R172, R173, R175, R176) -/

theorem SessionOpen.goTo (hs : SessionOpen s h) (p : Phase) : SessionOpen (goTo p s) h := ⟨hs.session, hs.handle⟩

/-- Settles O13: the call of `flushCall_returns`, in `FLUSHING`. -/
theorem flushMakesOneCall : Obligations.FlushMakesOneCall := by
  intro s h st rest hs hq s1
  have hcall := flushCall_returns (s := goTo .flushing s) rfl (hs.goTo _) hq
  rw [phaseStep_flushing rfl] at hcall
  refine hcall.trans ?_
  by_cases hst : st = 0
  · subst hst; rfl
  · simp only [if_pos hst, if_neg hst]; rfl

/-- Settles O14: the call of `transmitCall_returns`, in `TRANSMITTING`; status before count. -/
theorem transmitMakesOneCall : Obligations.TransmitMakesOneCall := by
  intro s h frame st n rest hs hf hq s1
  have hcall := transmitCall_returns (s := goTo .transmitting s) rfl (hs.goTo _) hf hq
  rw [phaseStep_transmitting rfl] at hcall
  refine ⟨fun hst => hcall.trans ?_, fun hst hn => hcall.trans ?_, fun hst hn => hcall.trans ?_⟩
  · simp only [if_pos hst]; rfl
  · subst hst; simp only [if_pos hn]; rfl
  · subst hst hn
    simp only [ne_eq, not_true_eq_false, if_false]
    rfl

theorem receiveCall_reads {k : Nat} {st : Status} {bytes : List Byte} {rs : List (Status × List Byte)}
    (hs : SessionOpen s h) (hq : s.transport.reads = (st, bytes) :: rs) :
    let s1 := record (.read h k st bytes) { s with transport := { s.transport with reads := rs } }
    receiveCall k s = .next (if st ≠ 0 then raiseDriver st s1
      else if bytes.length ≠ k then raiseIo .receive k bytes.length s1
      else { s1 with rxbuf := some bytes, phase := .checking }) := by
  rw [receiveCall, withSession_open hs.handle hs.session, callRead_some h k hq]

/-- Settles O15: the call of `receiveCall_reads`, in `RECEIVING`; status before count. -/
theorem receiveMakesOneCall : Obligations.ReceiveMakesOneCall := by
  intro s h k st bytes rest hs hq s1
  have hcall := receiveCall_reads (s := goTo .receiving s) (k := k) (hs.goTo _) hq
  refine ⟨fun hst => hcall.trans ?_, fun hst hn => hcall.trans ?_, fun hst hn => hcall.trans ?_⟩
  · simp only [if_pos hst]; rfl
  · subst hst; simp only [if_pos hn]; rfl
  · subst hst hn
    simp only [ne_eq, not_true_eq_false, if_false]
    rfl

/-- The acknowledgement passes and nothing is written (R176). -/
theorem ackCheckStep_acked {bytes : List Byte} (hb : s.rxbuf = some bytes) (h7 : bytes[7]? = some Config.ack) :
    ackCheckStep s = .next s := by
  simp [ackCheckStep, hb, Config.ackOffset, h7, ackOk]

theorem ackCheckStep_badAck {bytes : List Byte} {b : Byte} (hb : s.rxbuf = some bytes) (h7 : bytes[7]? = some b)
    (hne : b ≠ Config.ack) : ackCheckStep s = .next (raise .protocolError (some (.ackCheckFailed b)) s) := by
  simp [ackCheckStep, hb, Config.ackOffset, h7, ackOk, hne]

/-- Settles O16: the two outcomes of the test of offset 7, in `CHECKING`. -/
theorem ackCheckTestsOffsetSeven : Obligations.AckCheckTestsOffsetSeven := by
  intro s bytes b hb h7
  refine ⟨?_, fun hne => ackCheckStep_badAck (s := goTo .checking s) hb h7 hne⟩
  rintro rfl
  exact ackCheckStep_acked (s := goTo .checking s) hb h7

/-! ## Opening and closing (R125, R126) -/

theorem openCall_alreadyOpen (hp : s.phase = .opening) (hd : s.setTimeoutsDue = false) (ho : s.isOpen = true) :
    phaseStep s = .next (goTo .build s) := by
  simp [phaseStep_opening hp, openCall, openSessionCall, hd, ho]

theorem exec_openSession (s : State) :
    exec .openSession s = runWhile (fun p => decide (p = .opening)) 2 (goTo .opening s) := rfl

/-- Settles O21: an open session makes no call; else `open_run`. -/
theorem openSessionOpensAndSetsTimeouts : Obligations.OpenSessionOpensAndSetsTimeouts := by
  intro s hd
  constructor
  · intro ho
    have hstep := openCall_alreadyOpen (s := goTo .opening s) rfl hd ho
    rw [exec_openSession, runWhile_step (fuel := 1) rfl hstep, runWhile_stop 1 rfl]
    rfl
  · intro index h os ts ho hi hq ht
    rw [exec_openSession]
    exact open_run (s := goTo .opening s) rfl 0 rfl hd ho hi hq ht

/-- The best-effort open with `REOPEN_IN_CLOSE = always`: one `T.open`, whose handle counts if it succeeded (R126). -/
theorem reopenCall_always {index : Nat} {h2 : Handle} {ost : Status} {os : List (Status × Handle)}
    (hp : s.phase = .reopening) (hm : s.params.reopenInClose = .always) (hi : s.devIndex = some index)
    (hq : s.transport.opens = (ost, h2) :: os) :
    phaseStep s = .next { s with
      phase := .closing, isOpen := if ost = 0 then true else s.isOpen,
      handle := if ost = 0 then some h2 else s.handle,
      transport := { s.transport with opens := os }, calls := s.calls ++ [.openDevice index ost h2] } := by
  rw [phaseStep_reopening hp, reopenCall]
  by_cases hst : ost = 0 <;> simp [hm, openPrimitive, hi, callOpen_some index hq, hst, goTo, record]

/-- The best-effort open of a block that is not open, failing, for both values of `REOPEN_IN_CLOSE` (R126 (c)). -/
theorem reopenCall_fails {index : Nat} {h2 : Handle} {ost : Status} {os : List (Status × Handle)}
    (hp : s.phase = .reopening) (hd : s.setTimeoutsDue = false) (ho : s.isOpen = false) (hi : s.devIndex = some index)
    (hst : ost ≠ 0) (hq : s.transport.opens = (ost, h2) :: os) :
    phaseStep s = .next { s with
      phase := .closing, transport := { s.transport with opens := os },
      calls := s.calls ++ [.openDevice index ost h2] } := by
  rw [phaseStep_reopening hp, reopenCall]
  cases hm : s.params.reopenInClose <;>
    simp [openSessionCall, hd, ho, openPrimitive, hi, callOpen_some index hq, hst, goTo, record]

theorem reopenCall_skips (hp : s.phase = .reopening) (hm : s.params.reopenInClose = .viaFlag)
    (hd : s.setTimeoutsDue = false) (ho : s.isOpen = true) : phaseStep s = .next (goTo .closing s) := by
  simp [phaseStep_reopening hp, reopenCall, hm, openSessionCall, hd, ho]

/-- `CLOSE_SESSION` from outside `CLOSING` begins with its best-effort open (R126). -/
theorem exec_closeSession (hp : s.phase ≠ .closing) :
    exec .closeSession s = runWhile inClose 3 (goTo .reopening s) := by
  simp [exec, execCloseSession, closeEntry, hp]

/-- Settles O23: the best-effort open makes no call, then `close_run`. -/
theorem closeSessionClosesOnce : Obligations.CloseSessionClosesOnce := by
  intro s h st cs hs hd hp hm hq
  rw [exec_closeSession hp,
    runWhile_step (fuel := 2) rfl (reopenCall_skips (s := goTo .reopening s) rfl hm hd hs.session),
    close_run (s := goTo .closing (goTo .reopening s)) rfl rfl 1 rfl hq]
  simp [goTo, goIdle, closeHandle, hs.handle]

/-- Settles O24: the one `T.open` of `reopenCall_always`, then `close_run`. -/
theorem closeSessionReopensAlways : Obligations.CloseSessionReopensAlways := by
  intro s h h2 index ost st os cs hs hp hm hi ho hq
  rw [exec_closeSession hp,
    runWhile_step (fuel := 2) rfl (reopenCall_always (s := goTo .reopening s) rfl hm hi ho),
    close_run rfl rfl 1 (by rfl) (by exact hq)]
  by_cases hst : ost = 0
  · simp only [if_pos hst, closeHandle, goTo_calls, List.append_assoc]
    rfl
  · simp only [if_neg hst, closeHandle, goTo_handle, hs.handle, goTo_calls, List.append_assoc]
    rfl

/-- Settles O25: the failing open of `reopenCall_fails`, then `close_run` without a handle. -/
theorem closeAfterTwoFailedOpens : Obligations.CloseAfterTwoFailedOpens := by
  intro s h index ost st os cs ho hh hd hp he hi hst hopen hq
  rw [exec_closeSession hp,
    runWhile_step (fuel := 2) rfl (reopenCall_fails (s := goTo .reopening s) rfl hd ho hi hst hopen),
    close_run rfl rfl 1 (by rfl) (by exact hq)]
  simp [goIdle, closeHandle, hh, he, ho]

/-! ## Construction and discard -/

/-- Settles O26: the one call, in `ENUM_COUNT`. -/
theorem enumerateReturnsTheCount : Obligations.EnumerateReturnsTheCount := by
  intro s st count rest hq s1
  have hcall : exec .enumerate s =
      .next (if st ≠ 0 then raiseDriver st s1 else { s1 with scanCount := some count }) := by
    simp only [exec, execEnumerate, enumerateCall, callEnumerateCount_some (s := goTo .enumCount s) hq]
    rfl
  rw [hcall]
  by_cases hst : st = 0 <;> simp [hst, raiseDriver]

/-- Settles O32: an idle block's `DISCARD` is `discarded`. -/
theorem discardResetsEveryRegister : Obligations.DiscardResetsEveryRegister := by
  intro s hp
  exact if_neg (not_not.2 hp)

/-! ## Refusals -/

theorem exec_of_issue_refused {r : Refusal} (hi : i.hostOp.isSome = true) (h : issue i s = .refused r) :
    exec i s = .refused r := by
  obtain ⟨within, fuel, -, he⟩ := exec_eq_runWhile hi s
  rw [he, h, andThen_refused]

/-- Settles O34: the issue is refused before anything else is looked at. -/
theorem overlappingOperationsAreRefused : Obligations.OverlappingOperationsAreRefused :=
  fun _ _ hp hi => exec_of_issue_refused hi (issue_busy hp hi)

/-- Settles O33: each operation's issue tests `CONFIGURED` first. -/
theorem configurationGatesTheOperations : Obligations.ConfigurationGatesTheOperations := by
  intro s hp
  constructor
  · intro hc
    refine ⟨fun dev reg payload => exec_of_issue_refused rfl ?_, fun dev reg length => exec_of_issue_refused rfl ?_,
      fun ht => ?_⟩
    · simp [issue, issueWriteRegisters, hp, hc]
    · simp [issue, issueReadRegisters, hp, hc]
    · simp [exec, execTransact, transactEntry, ht, hp, hc]
  · intro hc
    refine ⟨fun index => exec_of_issue_refused rfl ?_, fun serial => exec_of_issue_refused rfl ?_⟩
    · simp [issue, issueSelectIndex, hp, hc]
    · simp [issue, issueSelectSerial, hp, hc]

theorem fitsByte_iff (v : Int) : fitsByte v = true ↔ 0 ≤ v ∧ v ≤ 255 := by
  simp [fitsByte]; omega

theorem fitsHalf_iff (v : Int) : fitsHalf v = true ↔ 0 ≤ v ∧ v ≤ 65535 := by
  simp [fitsHalf]; omega

theorem fitsHalf_toNat (n : Half) : fitsHalf (Int.ofNat n.toNat) = true := by
  rw [fitsHalf_iff]
  have := n.isLt
  simp; omega

theorem exec_transact_refused {r : Refusal} (ht : isTransaction s = true) (hp : s.phase = .idle)
    (hc : s.configured = true) (hb : requestBody s = .error r) : exec .transact s = .refused r := by
  rw [exec, execTransact, transactEntry_refused ht hp hc hb, andThen_refused]

theorem held_bind_noValue {α β : Type} {r : RegName} {v : Option α} {f : α → Except Refusal β}
    (hf : ∀ a, v = some a → ∃ register, f a = .error (.noValue register)) :
    ∃ register, (held r v >>= f) = .error (.noValue register) := by
  cases v with
  | none => exact ⟨r, rfl⟩
  | some a => exact hf a rfl

/-- An operand register without a value is the ground of the refusal (R21). -/
theorem requestBody_noValue (ho : s.op = some .writeRegisters ∨ s.op = some .readRegisters)
    (hn : s.devAddr = none ∨ s.regAddr = none ∨ s.op = some .writeRegisters ∧ s.payload = none ∨
      s.op = some .readRegisters ∧ s.length = none) : ∃ register, requestBody s = .error (.noValue register) := by
  unfold requestBody
  obtain ho | ho := ho <;> simp only [ho] at hn ⊢ <;>
    refine held_bind_noValue fun d hd => held_bind_noValue fun r hr => held_bind_noValue fun p hp => ?_ <;>
    simp [hd, hr, hp] at hn

/-- Settles O35: operands that do not fit are none of `writeOperands` and `readOperands`; loaded ones have no
`requestBody`. -/
theorem unencodableOperandsAreRefused : Obligations.UnencodableOperandsAreRefused := by
  intro s hp hc
  refine ⟨?write, ?read, ?tooLong, ?noValue, fitsByte_iff, fitsHalf_iff⟩
  case write =>
    intro dev reg payload hbad
    refine exec_writeRegisters_unencodable hp hc (Option.eq_none_iff_forall_ne_some.2 ?_)
    rintro ⟨d, r, p⟩ h
    obtain ⟨rfl, rfl, rfl, hmax, -⟩ := writeOperands_some.1 h
    obtain hbad | hbad | ⟨v, hv, hbad⟩ | hbad := hbad
    · simp [fitsByte_ofByte] at hbad
    · simp [fitsByte_ofByte] at hbad
    · obtain ⟨b, -, rfl⟩ := List.mem_map.1 hv
      simp [fitsByte_ofByte] at hbad
    · rw [List.length_map] at hbad
      omega
  case read =>
    intro dev reg length hbad
    refine exec_readRegisters_unencodable hp hc (Option.eq_none_iff_forall_ne_some.2 ?_)
    rintro ⟨d, r, n⟩ h
    obtain ⟨rfl, rfl, rfl⟩ := readOperands_some.1 h
    simp only [fitsByte_ofByte, fitsHalf_toNat, Bool.true_eq_false, or_self] at hbad
  case tooLong =>
    intro d r p ho hd hr hpay hlong
    refine exec_transact_refused (by simp [isTransaction, ho]) hp hc ?_
    rw [requestBody_write ho hd hr hpay, if_neg]
    simp only [PayloadFits, Config.maxEncodablePayload]
    omega
  case noValue =>
    intro ho hn
    obtain ⟨register, hb⟩ := requestBody_noValue ho hn
    exact ⟨register, exec_transact_refused (by obtain ho | ho := ho <;> simp [isTransaction, ho]) hp hc hb⟩

/-! ## The responses as instructions (R142, R157) -/

/-- Settles O36: the count is the one kept, or the length of the payload and eight. -/
theorem responseToWriteGivesTheCount : Obligations.ResponseToWriteGivesTheCount := by
  intro s header trailer ho hl
  refine ⟨fun n hn => ?_, fun p hn hp => ?_⟩
  · simp [exec, execResponseToWrite, ho, hl, Config.ackOffset, writtenCount, hn, responseTaken]
  · simp [exec, execResponseToWrite, ho, hl, Config.ackOffset, writtenCount, hn, hp, responseTaken]

/-- Settles O37: the payload count decides. -/
theorem responseToReadGivesThePayload : Obligations.ResponseToReadGivesThePayload := by
  intro s header payload trailer n ho hn hl
  refine ⟨fun hpl => ?_, fun hpl => ?_⟩
  · simp [exec, execResponseToRead, ho, hn, hl, Config.ackOffset, hpl, responseTaken]
  · simp [exec, execResponseToRead, ho, hn, hl, Config.ackOffset, hpl, raiseIo, Config.respOverhead]

/-! ## Errors (R214) -/

theorem closeDue_iff : closeDue s = true ↔ (s.op = some .writeRegisters ∨ s.op = some .readRegisters) ∧
    (s.isOpen = true ∨ s.phase = .opening ∧ s.params.closeAfterOpenFailure = true) := by
  have ht : isTransaction s = true ↔ s.op = some .writeRegisters ∨ s.op = some .readRegisters := by
    unfold isTransaction
    split <;> simp_all
  simp [closeDue, ht]

/-- Settles O43: what is recorded is `recordError`'s, where it leads is `closeDue`'s, and the rest stays. -/
theorem raiseAborts : Obligations.RaiseAborts := by
  intro e info s t
  refine ⟨fun h => ?_, fun h => ?_, ?_, ?_⟩
  · simp [t, recordError_first _ _ _ h]
  · simp [t, recordError_later _ _ _ h]
  · simp only [t, raise_phase, closeDue_iff]
  · simp [t]

end Sys2Proof.Machine
end

section

/-! # The step: requests, micro-steps, responses, placed words, and the call-level machine -/

namespace Sys2Proof.Machine

variable {s t : State} {i : Instr} {h : Handle}

/-! ## The step of an idle block -/

/-- Settles O56: `step_request` runs a host operation and refuses any other row. -/
theorem stepRunsTheRequest : Obligations.StepRunsTheRequest := by
  intro s hp
  refine ⟨step_noRequest hp, fun i rest hq hi => ?_, fun i rest hq hi => ?_⟩
  · rw [step_request hp hq, runRequest, if_pos hi]
  · rw [step_request hp hq, runRequest, hi]
    rfl

/-! ## The step of a block in a phase of one micro-step -/

theorem goTo_self {p : Phase} (hp : s.phase = p) : goTo p s = s := by
  subst hp
  rfl

/-- An operation that a part blocks or ends is that part. -/
theorem runWhile_one_part {within : Phase → Bool} (n : Nat) (hw : within s.phase = true)
    (hpart : ∀ t, phaseStep s = .next t → t = s ∨ within t.phase = false) :
    runWhile within (n + 1) s = phaseStep s := by
  rw [runWhile_succ n hw]
  cases hs : phaseStep s with
  | next t =>
    rw [andThen_next]
    obtain rfl | ht := hpart t hs
    · exact runWhile_blocked n hs
    · exact runWhile_stop n ht
  | fault e => rfl
  | refused r => rfl

theorem raise_phase_ne {e : ErrorCode} {info : Option ErrorInfo} {p : Phase} (h1 : p ≠ .reopening) (h2 : p ≠ .idle) :
    (raise e info s).phase ≠ p := by
  rw [raise_phase]
  split
  · exact h1.symm
  · exact h2.symm

/-- With a session open, a part in `OPENING` ends the opening: with `set_timeouts`, or with nothing more to do. -/
theorem Part.leaves_opening (hpart : Part s t) (hp : s.phase = .opening) (ho : s.isOpen = true) :
    t.phase ≠ .opening := by
  cases hpart with
  | timeoutsSet | alreadyOpen => exact Phase.noConfusion
  | timeoutsFailed => exact raise_phase_ne (by decide) (by decide)
  | opened _ _ hclosed | openFailed _ _ hclosed => simp [ho] at hclosed
  | counted hp' | countFailed hp' => simp [hp, inSelect] at hp'
  | callFailed hp' => simp [hp] at hp'
  | _ => simp_all

theorem Part.leaves_closing (hpart : Part s t) (hp : s.phase = .closing) : t.phase = .idle := by
  cases hpart with
  | closed => rfl
  | counted hp' | countFailed hp' => simp [hp, inSelect] at hp'
  | callFailed hp' | opened hp' => simp [hp] at hp'
  | _ => simp_all

/-- Settles O57: a phase is entered where the block already stands; the two session calls are one part. -/
theorem stepRunsThePhasesMicroStep : Obligations.StepRunsThePhasesMicroStep := by
  intro s
  have hstep {p : Phase} (hp : s.phase = p) (hne : p ≠ .idle) : step s = phaseStep s := step_busy (hp ▸ hne)
  refine ⟨fun hp hn => ?_, fun hp => ?_, fun hp => ?_, fun n hp hn => ?_, fun hp ho => ?_, fun hp => ?_⟩
  · rw [hstep hp (by decide), phaseStep_enumCount hp, exec, execEnumerate, goTo_self hp, countCall, hn]
  · rw [hstep hp (by decide), phaseStep_flushing hp, exec, execFlush, goTo_self hp]
  · rw [hstep hp (by decide), phaseStep_transmitting hp, exec, execTransmit, goTo_self hp]
  · rw [hstep hp (by decide), phaseStep_receiving hp, exec, execReceive, goTo_self hp, receiveResponse, hn]
    rfl
  · rw [hstep hp (by decide), exec_openSession, goTo_self hp]
    refine (runWhile_one_part 1 (by simp [hp]) fun t ht => ?_).symm
    obtain ⟨rfl, -⟩ | hpart := phaseStep_next ht
    · exact .inl rfl
    · exact .inr (by simpa using hpart.leaves_opening hp ho)
  · rw [hstep hp (by decide), exec, execCloseSession, closeEntry, if_pos hp]
    refine (runWhile_one_part 2 (by simp [hp, inClose]) fun t ht => ?_).symm
    obtain ⟨rfl, -⟩ | hpart := phaseStep_next ht
    · exact .inl rfl
    · exact .inr (by simp [hpart.leaves_closing hp, inClose])

/-! ## The step of a block that has received a response -/

/-- What the operation in progress decodes is its own response, with the acknowledgement at offset 7. -/
theorem decode_responseChannel_ok {n : Nat} {bytes : List Byte} (hn : responsePayload s = .ok n)
    (hd : decode (responseChannel s n) bytes = .ok i) :
    bytes[7]? = some Config.ack ∧
      ((∃ header trailer, i = .responseToWrite header trailer) ∨
        ∃ header payload trailer, i = .responseToRead header payload trailer) := by
  have hack {header payload trailer} (h : decodeResponse n bytes = .ok (header, payload, trailer)) :
      bytes[7]? = some Config.ack := by
    obtain ⟨hh, -, rfl⟩ := decodeResponse_ok h
    simp [← hh]
  obtain ⟨ho, rfl⟩ | ⟨k, ho, -, rfl⟩ := responsePayload_ok hn <;> simp only [responseChannel, ho, decode] at hd <;>
    split at hd <;> cases hd
  next hd => exact ⟨hack hd, .inl ⟨_, _, rfl⟩⟩
  next hd => exact ⟨hack hd, .inr ⟨_, _, _, rfl⟩⟩

theorem takeResponse_decoded {n : Nat} {bytes : List Byte} (hb : s.rxbuf = some bytes)
    (hn : responsePayload s = .ok n) (hd : decode (responseChannel s n) bytes = .ok i) : takeResponse s = exec i s := by
  simp only [takeResponse, hb, reading_some, hn, hd]
  obtain ⟨-, ⟨header, trailer, rfl⟩ | ⟨header, payload, trailer, rfl⟩⟩ := decode_responseChannel_ok hn hd <;> rfl

theorem step_decoded {n : Nat} {bytes : List Byte} (hp : s.phase = .checking) (hb : s.rxbuf = some bytes)
    (hn : responsePayload s = .ok n) (hd : decode (responseChannel s n) bytes = .ok i) : step s = exec i s := by
  rw [step_busy (by simp [hp]), phaseStep_checking hp, checkCall,
    ackCheckStep_acked hb (decode_responseChannel_ok hn hd).1, andThen_next, if_pos hp, takeResponse_decoded hb hn hd]

/-- Settles O58: the acknowledgement passes, and what is decoded is taken. -/
theorem stepRunsTheDecodedResponse : Obligations.StepRunsTheDecodedResponse :=
  fun _ _ _ _ hp hb hn hd => step_decoded hp hb hn hd

/-- An error leaves no buffer, so what the buffer held does not matter (R33, R214). -/
theorem raise_withRxbuf (e : ErrorCode) (info : Option ErrorInfo) (s : State) (x y : Option (List Byte)) :
    raise e info { s with rxbuf := x } = raise e info { s with rxbuf := y } := by
  have hrec (z : Option (List Byte)) :
      recordError e info { s with rxbuf := z } = { recordError e info s with rxbuf := z } := by
    by_cases he : s.err = .none
    · rw [recordError_first _ _ _ he, recordError_first _ _ _ (by exact he)]
    · rw [recordError_later _ _ _ he, recordError_later _ _ _ (by exact he)]
  have hdue (z : Option (List Byte)) : closeDue { s with rxbuf := z } = closeDue s := rfl
  cases h : closeDue s with
  | true =>
    rw [raise_due _ _ _ ((hdue x).trans h), raise_due _ _ _ ((hdue y).trans h), hrec x, hrec y]
    rfl
  | false =>
    rw [raise_notDue _ _ _ ((hdue x).trans h), raise_notDue _ _ _ ((hdue y).trans h), hrec x, hrec y]
    rfl

theorem writtenCount_error {r : Refusal} (h : writtenCount s = .error r) : s.writeCount = none ∧ s.payload = none := by
  unfold writtenCount at h
  split at h
  · cases h
  next hw =>
    cases hp : s.payload with
    | none => exact ⟨hw, rfl⟩
    | some p => rw [hp] at h; cases h

/-- Settles O55: with another byte at offset 7 the error names that byte alone; with the acknowledgement a write's
result is its count, and a read's payload is `RDATA`. -/
theorem onlyTheAckByteIsExamined : Obligations.OnlyTheAckByteIsExamined := by
  intro s n a b hp hn ha hb h7
  obtain ⟨ack, hack⟩ : ∃ ack, a[7]? = some ack := ⟨a[7], List.getElem?_eq_getElem (by omega)⟩
  have hstep (bytes : List Byte) : step { s with rxbuf := some bytes } = checkCall { s with rxbuf := some bytes } :=
    (step_busy (by simp [hp])).trans (phaseStep_checking hp)
  simp only [hstep]
  by_cases hok : ack = Config.ack
  case neg =>
    have hraise := raise_withRxbuf .protocolError (some (.ackCheckFailed ack)) s (some a) (some b)
    exact .inl ⟨_, _, checkCall_badAck rfl hack hok, checkCall_badAck rfl (h7 ▸ hack) hok, by rw [hraise],
      fun _ => hraise⟩
  subst hok
  obtain ⟨ho, rfl⟩ | ⟨k, ho, hk, rfl⟩ := responsePayload_ok hn
  · rw [checkCall_acked_write (s := { s with rxbuf := some a }) hp ho rfl ha hack,
      checkCall_acked_write (s := { s with rxbuf := some b }) hp ho rfl hb (h7 ▸ hack)]
    have hcount (x : Option (List Byte)) : writtenCount { s with rxbuf := x } = writtenCount s := rfl
    simp only [hcount]
    cases hw : writtenCount s with
    | ok m => exact .inl ⟨_, _, rfl, rfl, rfl, fun _ => rfl⟩
    | error r =>
      obtain ⟨hwc, hpay⟩ := writtenCount_error hw
      exact .inr ⟨ho, hwc, hpay, hack, r, rfl, rfl⟩
  · refine .inl ⟨_, _, checkCall_read (s := { s with rxbuf := some a }) hp ho rfl hk ha hack,
      checkCall_read (s := { s with rxbuf := some b }) hp ho rfl hk hb (h7 ▸ hack), rfl, fun h => by simp [ho] at h⟩

/-! ## Placed words (R94) -/

/-- A table word is a request, or a response without payload (R82, R94). -/
theorem decodeTableWord_some {nbits w : Nat} (h : decodeTableWord nbits w = some i) :
    i.hostOp.isSome = true ∨ i.hostOp = none ∧
      ((∃ header trailer, i = .responseToWrite header trailer ∧ header.length = 7) ∨
        ∃ header trailer, i = .responseToRead header [] trailer ∧ header.length = 7) := by
  have answered {x : Except DecodeError Instr}
      (h : (match x with | .ok i => some i | .error _ => none) = some i) : x = .ok i := by
    cases x <;> cases h
    rfl
  unfold decodeTableWord at h
  have h := answered h
  split at h
  · simp only [decode] at h
    split at h <;> cases h
    next hd => exact .inr ⟨rfl, .inl ⟨_, _, rfl, (decodeResponse_ok hd).1⟩⟩
  · split at h
    · simp only [decode] at h
      split at h <;> cases h
      next hd =>
      obtain ⟨hh, hp, -⟩ := decodeResponse_ok hd
      obtain rfl := List.eq_nil_of_length_eq_zero hp
      exact .inr ⟨rfl, .inr ⟨_, _, rfl, hh⟩⟩
    · obtain ⟨d, r, p, -, -, rfl⟩ | ⟨d, r, n, -, rfl⟩ := decodeRequest_ok h <;> exact .inl rfl

/-- A request placed is what the next step runs, on the block without it (R202). -/
theorem step_placeRequest (hi : i.hostOp.isSome = true) (s : State) :
    step (placeRequest i s) =
      exec i { s with phase := .idle, configured := true, devIndex := some (s.devIndex.getD 0) } := by
  rw [step_request (s := placeRequest i s) rfl rfl, runRequest, if_pos hi]
  rfl

theorem place_request (hi : i.hostOp.isSome = true) (s : State) : place i s = placeRequest i s := by
  cases i with
  | responseToWrite | responseToRead => cases hi
  | _ => rfl

/-- A response placed is decoded from `RXBUF` by the next step (R90). -/
theorem step_place_response {bytes : List Byte} {n : Nat} (hw : i.wf = true) (he : encode i = some bytes)
    (hp : (place i s).phase = .checking) (hb : (place i s).rxbuf = some ((encode i).getD []))
    (hn : responsePayload (place i s) = .ok n) (hc : responseChannel (place i s) n = channelOf i) :
    step (place i s) = exec i (place i s) := by
  refine step_decoded hp (hb.trans (by rw [he, Option.getD_some])) hn ?_
  rw [hc]
  exact decodeOfEncodeIsTheInstruction i bytes hw he

/-- Settles O59: a request placed is `step_placeRequest`, a response `step_place_response`. -/
theorem stepRunsThePlacedWord : Obligations.StepRunsThePlacedWord := by
  intro s nbits w i hd
  have hplace : s.withFetchWord nbits w = place i s := by rw [State.withFetchWord, hd]
  rw [hplace]
  refine ⟨fun hi => by rw [place_request hi, step_placeRequest hi], fun hi => ?_⟩
  obtain hsome | ⟨-, ⟨header, trailer, rfl, hl⟩ | ⟨header, trailer, rfl, hl⟩⟩ := decodeTableWord_some hd
  · rw [hi] at hsome; cases hsome
  · exact step_place_response (by simp [Instr.wf, hl, Config.ackOffset]) (if_pos hl) rfl rfl rfl rfl
  · exact step_place_response (n := 0) (by simp [Instr.wf, hl, Config.ackOffset]) (if_pos hl) rfl rfl rfl rfl

/-! ## The host's queue (R66, R245) -/

/-- The block with another queue of requests before it. -/
def withRequests (q : List Instr) (s : State) : State := { s with requests := q }

/-- The result with another queue. -/
def queueing (q : List Instr) (r : Result) : Result := andThen r fun t => .next (withRequests q t)

variable (q : List Instr)

@[simp] theorem queueing_next (s : State) : queueing q (.next s) = .next (withRequests q s) := rfl
@[simp] theorem queueing_refused (r : Refusal) : queueing q (.refused r) = .refused r := rfl

theorem reading_queueing {α : Type} {r : RegName} {v : Option α} {f g : α → Result}
    (h : ∀ a, v = some a → f a = queueing q (g a)) : reading r v f = queueing q (reading r v g) := by
  cases v with
  | none => rfl
  | some a => exact h a rfl

theorem recordError_withRequests (e : ErrorCode) (info : Option ErrorInfo) (s : State) :
    recordError e info (withRequests q s) = withRequests q (recordError e info s) := by
  unfold recordError
  by_cases h : s.err = .none
  · rw [if_pos h, if_pos (by exact h)]; rfl
  · rw [if_neg h, if_neg (by exact h)]

theorem raise_withRequests (e : ErrorCode) (info : Option ErrorInfo) (s : State) :
    raise e info (withRequests q s) = withRequests q (raise e info s) := by
  have hdue : closeDue (withRequests q s) = closeDue s := rfl
  cases h : closeDue s with
  | true => rw [raise_due _ _ _ h, raise_due _ _ _ (hdue.trans h), recordError_withRequests]; rfl
  | false => rw [raise_notDue _ _ _ h, raise_notDue _ _ _ (hdue.trans h), recordError_withRequests]; rfl

theorem raiseDriver_withRequests (st : Status) (s : State) :
    raiseDriver st (withRequests q s) = withRequests q (raiseDriver st s) := raise_withRequests q _ _ s

theorem raiseIo_withRequests (step : IoStep) (m n : Nat) (s : State) :
    raiseIo step m n (withRequests q s) = withRequests q (raiseIo step m n s) := raise_withRequests q _ _ s

theorem flushCall_withRequests (s : State) : flushCall (withRequests q s) = queueing q (flushCall s) := by
  refine reading_queueing q fun hd _ => ?_
  obtain ⟨hq, hc⟩ | ⟨st, rest, hq, hc⟩ := callFlushBuffers_cases hd s
  · rw [hc, callFlushBuffers_none (s := withRequests q s) hd hq]
    rfl
  · rw [hc, callFlushBuffers_some (s := withRequests q s) hd hq]
    simp only [queueing_next, apply_ite (withRequests q), ← raiseDriver_withRequests]
    rfl

theorem transmitCall_withRequests (s : State) : transmitCall (withRequests q s) = queueing q (transmitCall s) := by
  refine reading_queueing q fun frame _ => reading_queueing q fun hd _ => ?_
  obtain ⟨hq, hc⟩ | ⟨a, rest, hq, hc⟩ := callWrite_cases hd frame s
  · rw [hc, callWrite_none (s := withRequests q s) hd frame hq]
    rfl
  · rw [hc, callWrite_some (s := withRequests q s) hd frame hq]
    simp only [queueing_next, apply_ite (withRequests q), ← raiseDriver_withRequests, ← raiseIo_withRequests]
    rfl

theorem pollCall_withRequests (s : State) : pollCall (withRequests q s) = queueing q (pollCall s) := by
  have hqs : (withRequests q s).qstatus = s.qstatus := rfl
  simp only [pollCall, hqs]
  cases s.qstatus with
  | some code => rfl
  | none =>
    refine reading_queueing q fun polls _ => reading_queueing q fun hd _ => ?_
    obtain ⟨hq, hc⟩ | ⟨a, rest, hq, hc⟩ := callCheckQueueStatus_cases hd s
    · rw [hc, callCheckQueueStatus_none (s := withRequests q s) hd hq]
      rfl
    · rw [hc, callCheckQueueStatus_some (s := withRequests q s) hd hq]
      simp only [queueing_next, apply_ite (withRequests q), ← raiseDriver_withRequests]
      rfl

theorem waitCall_withRequests (s : State) : waitCall (withRequests q s) = queueing q (waitCall s) := by
  refine reading_queueing q fun polls _ => ?_
  cases hq : s.clock with
  | zero =>
    rw [callSleep_none _ hq, callSleep_none (s := withRequests q s) _ hq]
    rfl
  | succ later =>
    rw [callSleep_some _ hq, callSleep_some (s := withRequests q s) _ hq]
    simp only [queueing_next, apply_ite (withRequests q), ← raise_withRequests]
    rfl

theorem receiveResponse_withRequests (s : State) :
    receiveResponse (withRequests q s) = queueing q (receiveResponse s) := by
  have hpay : responsePayload (withRequests q s) = responsePayload s := rfl
  simp only [receiveResponse, hpay]
  cases responsePayload s with
  | error r => rfl
  | ok n =>
    refine reading_queueing q fun hd _ => ?_
    obtain ⟨hq, hc⟩ | ⟨a, rest, hq, hc⟩ := callRead_cases hd (Config.respOverhead + n) s
    · rw [hc, callRead_none (s := withRequests q s) hd _ hq]
      rfl
    · rw [hc, callRead_some (s := withRequests q s) hd _ hq]
      simp only [queueing_next, apply_ite (withRequests q), ← raiseDriver_withRequests, ← raiseIo_withRequests]
      rfl

theorem buildCall_withRequests (s : State) : buildCall (withRequests q s) = queueing q (buildCall s) := by
  have hbody : requestBody (withRequests q s) = requestBody s := rfl
  simp only [buildCall, hbody]
  cases requestBody s <;> rfl

theorem enumerateCall_withRequests (s : State) : enumerateCall (withRequests q s) = queueing q (enumerateCall s) := by
  unfold enumerateCall
  obtain ⟨hq, hc⟩ | ⟨a, rest, hq, hc⟩ := callEnumerateCount_cases s
  · rw [hc, callEnumerateCount_none (s := withRequests q s) hq]
    rfl
  · rw [hc, callEnumerateCount_some (s := withRequests q s) hq]
    simp only [queueing_next, apply_ite (withRequests q), ← raiseDriver_withRequests]
    rfl

theorem countCall_withRequests (s : State) : countCall (withRequests q s) = queueing q (countCall s) := by
  have hn : (withRequests q s).scanCount = s.scanCount := rfl
  have hop : (withRequests q s).op = s.op := rfl
  simp only [countCall, hn]
  cases s.scanCount with
  | none => exact enumerateCall_withRequests q s
  | some count =>
    simp only [selectDecision, hop]
    split
    · refine reading_queueing q fun index _ => ?_
      simp only [queueing_next, apply_ite (withRequests q), ← raise_withRequests]
      rfl
    · rfl
    · rfl

theorem scanDecision_withRequests (s : State) : scanDecision (withRequests q s) = withRequests q (scanDecision s) := by
  have hf : (withRequests q s).scanFound = s.scanFound := rfl
  simp only [scanDecision, hf]
  cases s.scanFound with
  | none => exact raise_withRequests q _ _ s
  | some found => rfl

theorem descriptorCall_withRequests (s : State) :
    descriptorCall (withRequests q s) = queueing q (descriptorCall s) := by
  have hn : (withRequests q s).scanCount = s.scanCount := rfl
  refine reading_queueing q fun i _ => reading_queueing q fun want _ => ?_
  simp only [hn]
  cases s.scanCount with
  | none => exact enumerateCall_withRequests q s
  | some count =>
    by_cases hlt : i < count
    · simp only [if_pos hlt]
      obtain ⟨hq, hc⟩ | ⟨a, rest, hq, hc⟩ := callEnumerateDescriptor_cases i s
      · rw [hc, callEnumerateDescriptor_none (s := withRequests q s) i hq]
        rfl
      · rw [hc, callEnumerateDescriptor_some (s := withRequests q s) i hq]
        simp only [queueing_next, apply_ite (withRequests q), ← raiseDriver_withRequests]
        rfl
    · simp only [if_neg hlt, scanDecision_withRequests, queueing_next]

/-- An open attempt with another queue. -/
def Attempt.queueing : Attempt → Attempt
  | .blocked => .blocked
  | .failed st s => .failed st (withRequests q s)
  | .done s => .done (withRequests q s)
  | .refused r => .refused r

theorem openPrimitive_withRequests (s : State) : openPrimitive (withRequests q s) = (openPrimitive s).queueing q := by
  have hi : (withRequests q s).devIndex = s.devIndex := rfl
  simp only [openPrimitive, hi]
  cases held .devIndex s.devIndex with
  | error r => rfl
  | ok index =>
    obtain ⟨hq, hc⟩ | ⟨a, rest, hq, hc⟩ := callOpen_cases index s
    · simp only [hc, callOpen_none (s := withRequests q s) index hq]
      rfl
    · simp only [hc, callOpen_some (s := withRequests q s) index hq, apply_ite (Attempt.queueing q)]
      rfl

theorem setTimeoutsPrimitive_withRequests (s : State) :
    setTimeoutsPrimitive (withRequests q s) = (setTimeoutsPrimitive s).queueing q := by
  have hh : (withRequests q s).handle = s.handle := rfl
  simp only [setTimeoutsPrimitive, hh]
  cases held .handle s.handle with
  | error r => rfl
  | ok hd =>
    obtain ⟨hq, hc⟩ | ⟨a, rest, hq, hc⟩ := callSetTimeouts_cases hd s
    · simp only [hc, callSetTimeouts_none (s := withRequests q s) hd hq]
      rfl
    · simp only [hc, callSetTimeouts_some (s := withRequests q s) hd hq, apply_ite (Attempt.queueing q)]
      rfl

theorem openSessionCall_withRequests (s : State) :
    openSessionCall (withRequests q s) = (openSessionCall s).queueing q := by
  have hd : (withRequests q s).setTimeoutsDue = s.setTimeoutsDue := rfl
  have ho : (withRequests q s).isOpen = s.isOpen := rfl
  simp only [openSessionCall, hd, ho, openPrimitive_withRequests, setTimeoutsPrimitive_withRequests]
  split
  · rfl
  · split
    · rfl
    · cases openPrimitive s <;> rfl

theorem openCall_withRequests (s : State) : openCall (withRequests q s) = queueing q (openCall s) := by
  simp only [openCall, openSessionCall_withRequests]
  cases openSessionCall s with
  | blocked | refused => rfl
  | failed st s1 => simp only [Attempt.queueing, raiseDriver_withRequests, queueing_next]
  | done s1 =>
    simp only [Attempt.queueing, queueing_next, apply_ite (withRequests q)]
    rfl

theorem reopenCall_withRequests (s : State) : reopenCall (withRequests q s) = queueing q (reopenCall s) := by
  have hm : (withRequests q s).params = s.params := rfl
  simp only [reopenCall, hm, openSessionCall_withRequests, openPrimitive_withRequests]
  split
  · cases openSessionCall s with
    | done s1 =>
      simp only [Attempt.queueing, queueing_next, apply_ite (withRequests q)]
      rfl
    | _ => rfl
  · cases openPrimitive s <;> rfl

theorem closeCall_withRequests (s : State) : closeCall (withRequests q s) = queueing q (closeCall s) := by
  have hh : closeHandle (withRequests q s) = closeHandle s := rfl
  simp only [closeCall, hh]
  obtain ⟨hq, hc⟩ | ⟨st, rest, hq, hc⟩ := callClose_cases (closeHandle s) s
  · simp only [hc, callClose_none (s := withRequests q s) (closeHandle s) hq]
    rfl
  · simp only [hc, callClose_some (s := withRequests q s) (closeHandle s) hq, queueing_next,
      apply_ite (withRequests q), ← raiseDriver_withRequests]
    rfl

theorem ackCheckStep_withRequests (s : State) : ackCheckStep (withRequests q s) = queueing q (ackCheckStep s) := by
  have hpay : responsePayload (withRequests q s) = responsePayload s := rfl
  refine reading_queueing q fun bytes _ => ?_
  split
  · simp only [hpay]
    cases responsePayload s with
    | error r => rfl
    | ok n => simp only [raiseIo_withRequests, queueing_next]
  · simp only [raise_withRequests, queueing_next, apply_ite (withRequests q)]

theorem execResponseToWrite_withRequests (header : List Byte) (trailer : Byte) (s : State) :
    execResponseToWrite header trailer (withRequests q s) = queueing q (execResponseToWrite header trailer s) := by
  have hop : (withRequests q s).op = s.op := rfl
  have hcount : writtenCount (withRequests q s) = writtenCount s := rfl
  simp only [execResponseToWrite, hop, hcount, raiseIo_withRequests]
  split
  · split
    · rfl
    · cases writtenCount s <;> rfl
  · rfl

theorem execResponseToRead_withRequests (header payload : List Byte) (trailer : Byte) (s : State) :
    execResponseToRead header payload trailer (withRequests q s) =
      queueing q (execResponseToRead header payload trailer s) := by
  have hop : (withRequests q s).op = s.op := rfl
  simp only [execResponseToRead, hop]
  split
  · refine reading_queueing q fun n _ => ?_
    simp only [raiseIo_withRequests]
    split <;> rfl
  · rfl

theorem takeResponse_withRequests (s : State) : takeResponse (withRequests q s) = queueing q (takeResponse s) := by
  have hpay : responsePayload (withRequests q s) = responsePayload s := rfl
  have hchan (n : Nat) : responseChannel (withRequests q s) n = responseChannel s n := rfl
  refine reading_queueing q fun bytes _ => ?_
  simp only [hpay, hchan]
  cases responsePayload s with
  | error r => rfl
  | ok n =>
    simp only [execResponseToWrite_withRequests, execResponseToRead_withRequests, raiseIo_withRequests]
    split <;> rfl

theorem checkCall_withRequests (s : State) : checkCall (withRequests q s) = queueing q (checkCall s) := by
  simp only [checkCall, ackCheckStep_withRequests]
  cases ackCheckStep s with
  | next s1 =>
    have hp : (withRequests q s1).phase = s1.phase := rfl
    simp only [queueing_next, andThen_next, hp, takeResponse_withRequests]
    split <;> rfl
  | fault e => rfl
  | refused r => rfl

theorem phaseStep_withRequests (s : State) : phaseStep (withRequests q s) = queueing q (phaseStep s) := by
  have hp : (withRequests q s).phase = s.phase := rfl
  simp only [phaseStep, hp]
  cases s.phase with
  | idle => rfl
  | enumCount => exact countCall_withRequests q s
  | enumDesc => exact descriptorCall_withRequests q s
  | opening => exact openCall_withRequests q s
  | build => exact buildCall_withRequests q s
  | flushing => exact flushCall_withRequests q s
  | transmitting => exact transmitCall_withRequests q s
  | polling => exact pollCall_withRequests q s
  | waiting => exact waitCall_withRequests q s
  | receiving => exact receiveResponse_withRequests q s
  | checking => exact checkCall_withRequests q s
  | reopening => exact reopenCall_withRequests q s
  | closing => exact closeCall_withRequests q s

/-- Settles O54: a busy block's step is a part, and no part reads the queue. -/
theorem laterRequestsDoNotInterfere : Obligations.LaterRequestsDoNotInterfere := by
  intro s queued hp
  have hstep : step (withRequests queued s) = queueing queued (step s) := by
    rw [step_busy hp, step_busy (by exact hp), phaseStep_withRequests]
  exact ⟨fun t ht => hstep.trans (by rw [ht]; rfl), fun r hr => hstep.trans (by rw [hr]; rfl)⟩

/-! ## The call-level machine (D24) -/

theorem run_of_next (n : Nat) (hs : callStep s = .next t) : callCore.run (n + 1) s = callCore.run n t := by
  have hs : callCore.step s = .next t := hs
  simp only [Host.Core.run]
  rw [hs]

theorem run_of_refused {r : Refusal} (hs : callStep s = .refused r) : callCore.run 1 s = .refused r := by
  have hs : callCore.step s = .refused r := hs
  simp only [Host.Core.run]
  rw [hs]

/-- An operation run part by part is steps of the call-level machine. -/
theorem run_of_runWhile {within : Phase → Bool} (hw : within .idle = false) (fuel : Nat) (s : State) :
    ∃ n, callCore.run n s = runWhile within fuel s := by
  induction fuel generalizing s with
  | zero => exact ⟨0, rfl⟩
  | succ fuel ih =>
    cases hs : within s.phase with
    | false => exact ⟨0, (runWhile_stop _ hs).symm⟩
    | true =>
      have hp : s.phase ≠ .idle := fun hp => by rw [hp, hw] at hs; cases hs
      rw [runWhile_succ fuel hs]
      cases hstep : phaseStep s with
      | next t =>
        obtain ⟨n, hn⟩ := ih t
        exact ⟨n + 1, (run_of_next n ((callStep_busy hp).trans hstep)).trans hn⟩
      | fault e => cases e
      | refused r => exact ⟨1, run_of_refused ((callStep_busy hp).trans hstep)⟩

/-- Settles O60: one step issues the request, and the parts that follow are `run_of_runWhile`. -/
theorem callStepsReachTheMeaning : Obligations.CallStepsReachTheMeaning := by
  intro s i rest hp hq hi
  obtain ⟨within, fuel, hw, he⟩ := exec_eq_runWhile hi { s with requests := rest }
  rw [he]
  cases hissue : issue i { s with requests := rest } with
  | next u =>
    obtain ⟨n, hn⟩ := run_of_runWhile hw (fuel u) u
    exact ⟨n + 1, (run_of_next n ((callStep_request hp hq).trans hissue)).trans hn⟩
  | fault e => cases e
  | refused r => exact ⟨1, run_of_refused ((callStep_request hp hq).trans hissue)⟩

end Sys2Proof.Machine
end

section

/-! # Polling (R174, R177) -/

namespace Sys2Proof.Machine

variable {s t : State} {h : Handle} {within : Phase → Bool}

/-! ## Runs and their traces -/

/-- A property that every part inside the phases of a run keeps, the run keeps. -/
theorem runWhile_keeps_within {P : State → Prop}
    (hP : ∀ a b, within a.phase = true → P a → phaseStep a = .next b → P b) {fuel : Nat} (hs : P s)
    (h : runWhile within fuel s = .next t) : P t := by
  induction fuel generalizing s with
  | zero => cases h; exact hs
  | succ n ih =>
    cases hw : within s.phase with
    | false => rw [runWhile_stop _ hw] at h; cases h; exact hs
    | true =>
      rw [runWhile_succ _ hw] at h
      obtain ⟨u, hu, hr⟩ := andThen_eq_next h
      exact ih (hP _ _ hw hs hu) hr

theorem callsSince_eq {made : List Call} (h : t.calls = s.calls ++ made) : callsSince s t = made := by
  rw [callsSince, h, List.drop_left]

/-! ## Where a polling starts and ends -/

/-- Where `POLL` starts its counting, no poll is made yet (R174). -/
theorem pollEntry_starts (hp : pollStarts s = true) :
    pollEntry s = pollingAt s 0 s.clock s.transport.queueStatus s.calls := by
  have hentry : pollEntry s = { s with phase := .polling, pollCnt := some 0, qstatus := none } := by
    unfold pollEntry
    split
    next hin =>
      simp only [Bool.and_eq_true, Option.isSome_iff_ne_none, ne_eq] at hin
      simp [pollStarts, hin.1, hin.2] at hp
      obtain ⟨⟨h1, h2⟩, h3⟩ := hp
      rw [← h1, ← h2, ← h3]
    · rfl
  rw [hentry]
  rfl

theorem exec_poll (hp : pollStarts s = true) :
    exec .poll s = runWhile inPoll 300 (pollingAt s 0 s.clock s.transport.queueStatus s.calls) := by
  rw [exec, execPoll, pollEntry_starts hp]
  rfl

theorem inPoll_raise (e : ErrorCode) (info : Option ErrorInfo) (s : State) : inPoll (raise e info s).phase = false := by
  rw [raise_phase]
  split <;> rfl

/-- The unsuccessful polls of a `POLL`, after which the last one comes. -/
theorem exec_poll_pending {pending rest : List PollAnswer} {later : Nat} (hs : SessionOpen s h)
    (hp : pollStarts s = true) (hclock : s.clock = pending.length + later) (hpending : pending.all notReady = true)
    (hlt : pending.length < 100) (hq : s.transport.queueStatus = pending ++ rest) :
    ∃ n, exec .poll s = runWhile inPoll (n + 3)
      (pollingAt s pending.length later rest (s.calls ++ pollCalls h pending)) := by
  refine ⟨297 - 3 * pending.length, ?_⟩
  have hfuel : 300 = 297 - 3 * pending.length + 3 + 3 * pending.length := by omega
  rw [exec_poll hp, hclock, hq, hfuel, poll_many rfl hs rfl _ _ _ _ _ _ hpending (by omega), Nat.zero_add]

/-- Settles O17: the pending polls, then `poll_ready`. -/
theorem pollEndsAtTheFirstReady : Obligations.PollEndsAtTheFirstReady := by
  intro s h pending available rest later hs hp hclock hpending hlt hq
  obtain ⟨n, hrun⟩ := exec_poll_pending hs hp hclock hpending hlt hq
  rw [hrun, poll_ready (n := n + 1) rfl hs, runWhile_stop _ rfl]
  rfl

/-- Settles O19: the pending polls, then `poll_error`. -/
theorem pollStopsAtAVendorError : Obligations.PollStopsAtAVendorError := by
  intro s h pending st available code rest later hs hp hclock hpending hlt hst hq
  obtain ⟨n, hrun⟩ := exec_poll_pending hs hp hclock hpending hlt hq
  rw [hrun, poll_error (n := n + 2) rfl hs _ _ _ hst, raiseDriver, runWhile_stop _ (inPoll_raise _ _ _)]
  rfl

theorem pollCalls_append (h : Handle) (a b : List PollAnswer) :
    pollCalls h (a ++ b) = pollCalls h a ++ pollCalls h b := by
  induction a with
  | nil => rfl
  | cons x a ih => simp [pollCalls, ih]

/-- Settles O18: 99 pending polls, then `poll_last`. -/
theorem pollTimesOutAfterOneHundred : Obligations.PollTimesOutAfterOneHundred := by
  intro s h pending rest later hs hp hclock hpending hlen hq
  obtain rfl | ⟨init, last, rfl⟩ := List.eq_nil_or_concat' pending
  · cases hlen
  obtain ⟨hinit, hlast⟩ : init.all notReady = true ∧ notReady last = true := by simpa using hpending
  have hcount : init.length = 99 := by simpa using hlen
  have hcalls : s.calls ++ pollCalls h (init ++ [last]) = s.calls ++ pollCalls h init ++
      [.checkQueueStatus h last.1 last.2.1 last.2.2, .sleepMs Config.pollIntervalMs] := by
    rw [pollCalls_append, List.append_assoc]; rfl
  obtain ⟨n, hrun⟩ := exec_poll_pending (later := later + 1) hs hp (by omega) hinit (by omega)
    (hq.trans (List.append_assoc _ _ _))
  rw [hrun, hcount, hcalls]
  refine (poll_last (n := n) rfl hs rfl later last rest (s.calls ++ pollCalls h init) hlast).trans ?_
  rw [runWhile_stop _ (inPoll_raise _ _ _)]
  rfl

/-! ## The bound -/

/-- What a polling has made since `s`: polls and sleeps, at most 100 of each; while it goes on, the polls are counted in
`POLL_CNT`, and each but the last has had its sleep. -/
def PollingSince (s t : State) : Prop :=
  ∃ made, t.calls = s.calls ++ made ∧ (∀ c ∈ made, (isPoll c || isSleep c) = true) ∧
    made.countP isPoll ≤ 100 ∧ made.countP isSleep ≤ 100 ∧
    (inPoll t.phase = true → t.pollCnt = some (made.countP isPoll) ∧ (t.phase = .waiting → t.qstatus = none) ∧
      if t.phase = .polling ∧ t.qstatus = none then
        made.countP isPoll < 100 ∧ made.countP isSleep = made.countP isPoll
      else made.countP isSleep + 1 = made.countP isPoll)

theorem Part.pollingSince {u : State} (h : Part t u) (hp : inPoll t.phase = true) (hs : PollingSince s t) :
    PollingSince s u := by
  obtain ⟨made, hcalls, hall, hpolls, hsleeps, hin⟩ := hs
  obtain ⟨hcnt, hwait, hbal⟩ := hin hp
  have hph : t.phase = .polling ∨ t.phase = .waiting := by simpa [inPoll] using hp
  cases h with
  | @polledOnce a k h polls available code hp' hq hc =>
    rw [if_pos ⟨hp', hq⟩] at hbal
    obtain rfl := Option.some.inj (hcnt.symm.trans hc)
    refine ⟨made ++ [.checkQueueStatus h 0 available code], by simp [returned, hcalls],
      List.forall_mem_append.2 ⟨hall, by simp [isPoll, isSleep]⟩, ?_⟩
    simp [isPoll, isSleep, returned, hp']
    omega
  | @decided code hp' hq =>
    rw [if_neg (by simp [hq])] at hbal
    refine ⟨made, hcalls, hall, hpolls, hsleeps, fun h => ⟨hcnt, fun _ => rfl, ?_⟩⟩
    cases hr : isReady code <;> simp [pollDecided, hr, inPoll] at h ⊢
    exact hbal
  | @waited a k polls hp' hc hl =>
    rw [if_neg (by simp [hp'])] at hbal
    obtain rfl := Option.some.inj (hcnt.symm.trans hc)
    refine ⟨made ++ [.sleepMs Config.pollIntervalMs], by simp [returned, hcalls],
      List.forall_mem_append.2 ⟨hall, by simp [isPoll, isSleep]⟩, ?_⟩
    simp [isPoll, isSleep, returned, hwait hp', hc, Config.pollLimit] at hl ⊢
    omega
  | @pollFailed a k h polls available code st hp' hq hc ho hst =>
    rw [if_pos ⟨hp', hq⟩] at hbal
    refine ⟨made ++ [.checkQueueStatus h st available code], by simp [returned, raiseDriver, hcalls],
      List.forall_mem_append.2 ⟨hall, by simp [isPoll, isSleep]⟩, ?_⟩
    simp [isPoll, isSleep, raiseDriver, inPoll_raise]
    omega
  | @timedOut a k polls hp' hc =>
    rw [if_neg (by simp [hp'])] at hbal
    refine ⟨made ++ [.sleepMs Config.pollIntervalMs], by simp [returned, hcalls],
      List.forall_mem_append.2 ⟨hall, by simp [isPoll, isSleep]⟩, ?_⟩
    simp [isPoll, isSleep, inPoll_raise]
    omega
  | counted hp' | countFailed hp' => obtain hph | hph := hph <;> simp [hph, inSelect] at hp'
  | callFailed hp' | opened hp' => obtain hph | hph := hph <;> simp [hph] at hp'
  | _ => obtain hph | hph := hph <;> simp_all

/-- Settles O20: `PollingSince` holds where `POLL` starts, and its parts keep it. -/
theorem pollIsBounded : Obligations.PollIsBounded := by
  intro s t hp h
  rw [exec_poll hp] at h
  have hstart : PollingSince s (pollingAt s 0 s.clock s.transport.queueStatus s.calls) :=
    ⟨[], (List.append_nil _).symm, by simp, by simp, by simp, fun _ => ⟨rfl, fun _ => rfl, by simp⟩⟩
  obtain ⟨made, hcalls, hall, hpolls, hsleeps, -⟩ := runWhile_keeps_within (P := PollingSince s)
    (fun a b hw ha hab => by
      obtain ⟨rfl, -⟩ | hpart := phaseStep_next hab
      · exact ha
      · exact hpart.pollingSince hw ha) hstart h
  rw [callsSince_eq hcalls]
  exact ⟨hcalls, hpolls, hsleeps, List.all_eq_true.2 hall⟩

end Sys2Proof.Machine
end

section

/-! # Normalisation (R112) -/

namespace Sys2Proof.Machine

theorem isSpace_iff (c : Nat) : isSpace c = true ↔ c = 0x20 ∨ 0x09 ≤ c ∧ c ≤ 0x0D := by simp [isSpace]

theorem isSpace_lowerChar (c : Nat) : isSpace (lowerChar c) = isSpace c := by
  rw [Bool.eq_iff_iff, isSpace_iff, isSpace_iff]
  unfold lowerChar
  split <;> omega

theorem lowerChar_lowerChar (c : Nat) : lowerChar (lowerChar c) = lowerChar c := by
  unfold lowerChar
  split
  · rw [if_neg (by omega)]
  · rfl

theorem dropWhile_map_lowerChar (s : Str) :
    (s.map lowerChar).dropWhile isSpace = (s.dropWhile isSpace).map lowerChar := by
  have hcomp : isSpace ∘ lowerChar = isSpace := funext isSpace_lowerChar
  rw [List.dropWhile_map, hcomp]

theorem trim_map_lowerChar (s : Str) : trim (s.map lowerChar) = (trim s).map lowerChar := by
  simp only [trim, dropWhile_map_lowerChar, ← List.map_reverse]

theorem dropWhile_eq_self {p : Nat → Bool} {s : Str} (h : ∀ c, s.head? = some c → p c = false) :
    s.dropWhile p = s := by
  cases s with
  | nil => rfl
  | cons c s => simp [h c rfl]

/-- A string without white space at its ends is trimmed to itself. -/
theorem trim_eq_self {s : Str} (hhead : ∀ c, s.head? = some c → isSpace c = false)
    (hlast : ∀ c, s.getLast? = some c → isSpace c = false) : trim s = s := by
  rw [trim, dropWhile_eq_self hhead, dropWhile_eq_self (by simpa using hlast), List.reverse_reverse]

theorem trim_eq_rdropWhile (s : Str) : trim s = (s.dropWhile isSpace).rdropWhile isSpace := rfl

theorem head_trim {s : Str} {c : Nat} (h : (trim s).head? = some c) : isSpace c = false := by
  obtain ⟨rest, hrest⟩ := List.rdropWhile_prefix isSpace (s.dropWhile isSpace)
  rw [← trim_eq_rdropWhile] at hrest
  have hhead := List.head?_dropWhile_not isSpace s
  rw [← hrest, List.head?_append, h] at hhead
  exact hhead

theorem getLast_trim {s : Str} {c : Nat} (h : (trim s).getLast? = some c) : isSpace c = false := by
  rw [trim, List.getLast?_reverse] at h
  have hlast := List.head?_dropWhile_not isSpace (s.dropWhile isSpace).reverse
  rw [h] at hlast
  exact hlast

/-- White space at the ends does not matter. -/
theorem trim_append {lead core trail : Str} (hl : lead.all isSpace = true) (ht : trail.all isSpace = true) :
    trim (lead ++ core ++ trail) = trim core := by
  rw [List.all_eq_true] at hl ht
  rw [trim, trim, List.append_assoc, List.dropWhile_append_of_pos hl, List.dropWhile_append]
  split
  next h =>
    rw [List.isEmpty_iff.1 h, List.dropWhile_eq_nil_iff.2 ht]
  next h =>
    rw [List.reverse_append, List.dropWhile_append_of_pos (by simpa using ht)]

/-- Settles O30: trimming commutes with folding, is idempotent, and takes the two ends only. -/
theorem normalisationTrimsAndFolds : Obligations.NormalisationTrimsAndFolds := by
  refine ⟨fun s => ?_, fun lead trail core hl ht => ?_, fun core hhead hlast => ?_, isSpace_iff, fun c => rfl⟩
  · rw [normalise, normalise, trim_map_lowerChar, trim_eq_self (fun _ => head_trim) (fun _ => getLast_trim),
      List.map_map]
    exact congrArg (fun f => (trim s).map f) (funext lowerChar_lowerChar)
  · rw [normalise, normalise, trim_append hl ht]
  · rw [normalise, trim_eq_self hhead hlast]

end Sys2Proof.Machine
end

section

/-! # The select operations: their runs, the errors they can end with, and their bound (R110 to R113, R211, R251) -/

namespace Sys2Proof.Machine

variable {s t u : State}

/-! ## The parts of a select operation -/

theorem countCall_calls (hn : s.scanCount = none) : countCall s = enumerateCall s := by rw [countCall, hn]

theorem countCall_decides {count : Nat} (hc : s.scanCount = some count) : countCall s = selectDecision count s := by
  rw [countCall, hc]

theorem countCall_counts {count : Nat} {cs : List (Status × Nat)} (hp : s.phase = .enumCount) (hn : s.scanCount = none)
    (hq : s.transport.counts = (0, count) :: cs) :
    phaseStep s = .next { s with
      scanCount := some count, transport := { s.transport with counts := cs },
      calls := s.calls ++ [.enumerateCount 0 count] } := by
  rw [phaseStep_enumCount hp, countCall_calls hn]
  simp only [enumerateCall, callEnumerateCount_some hq]
  rfl

theorem countCall_fails {count : Nat} {st : Status} {cs : List (Status × Nat)} (hp : s.phase = .enumCount)
    (hn : s.scanCount = none) (hst : st ≠ 0) (hq : s.transport.counts = (st, count) :: cs) :
    phaseStep s = .next (raiseDriver st { s with
      transport := { s.transport with counts := cs }, calls := s.calls ++ [.enumerateCount st count] }) := by
  rw [phaseStep_enumCount hp, countCall_calls hn]
  simp only [enumerateCall, callEnumerateCount_some hq]
  rw [if_pos hst]
  rfl

/-- An error of a select operation: the block is idle with it (R113, R214). -/
theorem raise_select {e : ErrorCode} {info : Option ErrorInfo} (ht : isTransaction s = false) (he : s.err = .none) :
    raise e info s = goIdle { s with err := e, errInfo := info, bytesWritten := none, rdata := none } := by
  rw [raise_notDue _ _ _ (by simp [closeDue, ht]), recordError_first _ _ _ he]

theorem indexDecision {count : Nat} {index : Int} (hp : s.phase = .enumCount) (hc : s.scanCount = some count)
    (ho : s.op = some .selectIndex) (hi : s.selIndex = some index) :
    phaseStep s = .next (if 0 ≤ index ∧ index < count then configure index.toNat s else raise .rangeError none s) := by
  rw [phaseStep_enumCount hp, countCall_decides hc]
  simp [selectDecision, ho, hi, indexInRange]

theorem scanStarts {count : Nat} (hp : s.phase = .enumCount) (hc : s.scanCount = some count)
    (ho : s.op = some .selectSerial) :
    phaseStep s = .next { s with phase := .enumDesc, scanIdx := some 0, scanFound := none } := by
  rw [phaseStep_enumCount hp, countCall_decides hc]
  simp [selectDecision, ho]

/-! ## Where the operations start -/

/-- The entry of a select operation, `s` holding its operation and operand. -/
theorem exec_selectIndex (index : Int) (hp : s.phase = .idle) (hc : s.configured = false) :
    exec (.selectIndex index) s =
      runSelect (beginOperation .enumCount { s with op := some .selectIndex, selIndex := some index }) := by
  rw [exec, execSelectIndex, issueSelectIndex, if_neg (not_not.2 hp), if_neg (by simp [hc]), andThen_next]

theorem exec_selectSerial (serial : Str) (hp : s.phase = .idle) (hc : s.configured = false) :
    exec (.selectSerial serial) s =
      runSelect (beginOperation .enumCount { s with op := some .selectSerial, selSerial := some serial }) := by
  rw [exec, execSelectSerial, issueSelectSerial, if_neg (not_not.2 hp), if_neg (by simp [hc]), andThen_next]

/-- A select operation after its count call has answered `count`. -/
def countedAs (count : Nat) (cs : List (Status × Nat)) (s : State) : State :=
  { s with
    scanCount := some count, transport := { s.transport with counts := cs },
    calls := s.calls ++ [.enumerateCount 0 count] }

theorem runSelect_counts {count : Nat} {cs : List (Status × Nat)} (hp : s.phase = .enumCount) (hn : s.scanCount = none)
    (hq : s.transport.counts = (0, count) :: cs) :
    runSelect s = runWhile inSelect (s.transport.descriptors.length + 3) (countedAs count cs s) := by
  have hfuel : selectParts s = s.transport.descriptors.length + 3 + 1 := by unfold selectParts; omega
  rw [runSelect, hfuel, runWhile_step (by rw [hp]; rfl) (countCall_counts hp hn hq)]
  rfl

/-- A failing count call ends a select operation (R110, V-C12). -/
theorem runSelect_countFails {count : Nat} {st : Status} {cs : List (Status × Nat)} (hp : s.phase = .enumCount)
    (hn : s.scanCount = none) (ht : isTransaction s = false) (he : s.err = .none) (hst : st ≠ 0)
    (hq : s.transport.counts = (st, count) :: cs) :
    runSelect s = .next (goIdle { s with
      err := .driverError, errInfo := some (.status st), bytesWritten := none, rdata := none,
      transport := { s.transport with counts := cs }, calls := s.calls ++ [.enumerateCount st count] }) := by
  have hfuel : selectParts s = s.transport.descriptors.length + 3 + 1 := by unfold selectParts; omega
  rw [runSelect, hfuel, runWhile_step (by rw [hp]; rfl) (countCall_fails hp hn hst hq), raiseDriver,
    raise_select (by exact ht) (by exact he), runWhile_stop _ rfl]

/-- Settles O27: the one call, and the decision on its count. -/
theorem selectIndexConfigures : Obligations.SelectIndexConfigures := by
  intro s index st count rest hp hc hn hq
  rw [exec_selectIndex index hp hc]
  by_cases hst : st = 0
  · subst hst
    refine Eq.trans (runSelect_counts rfl hn hq) (Eq.trans (runWhile_step rfl (indexDecision rfl rfl rfl rfl)) ?_)
    by_cases hi : 0 ≤ index ∧ index < count
    · rw [if_pos hi, runWhile_stop _ rfl]
      simp [hi, configure, countedAs, goIdle, beginOperation, clearResults]
    · rw [if_neg hi, raise_select rfl rfl, runWhile_stop _ rfl]
      simp [hi, hc, countedAs, goIdle, beginOperation, clearResults]
  · refine Eq.trans (runSelect_countFails rfl hn rfl rfl hst hq) ?_
    simp [hst, hc, goIdle, beginOperation, clearResults]

/-! ## The scan of `SELECT_SERIAL` (R112) -/

/-- A block in the scan, about to read descriptor `i`: the lowest match so far, the answers `ds` to come, the calls
`calls` made. -/
def scanningAt (s : State) (i : Nat) (found : Option Nat) (ds : List (Status × Str)) (calls : List Call) : State :=
  { s with
    phase := .enumDesc, scanIdx := some i, scanFound := found,
    transport := { s.transport with descriptors := ds }, calls := calls }

theorem descriptorCall_returns {i count : Nat} {want value : Str} {found : Option Nat} {st : Status}
    {ds : List (Status × Str)} {calls : List Call} (hw : s.selSerial = some want) (hc : s.scanCount = some count)
    (hlt : i < count) :
    let s1 := scanningAt s i found ds (calls ++ [.enumerateDescriptor i .serial st value])
    phaseStep (scanningAt s i found ((st, value) :: ds) calls) =
      .next (if st ≠ 0 then raiseDriver st s1 else scanned want value i s1) := by
  rw [phaseStep_enumDesc rfl]
  simp only [descriptorCall, scanningAt, hw, hc, reading_some, if_pos hlt]
  rw [callEnumerateDescriptor_some i (a := (st, value)) (rest := ds) rfl]
  rfl

theorem scan_decision {i count : Nat} {want : Str} {found : Option Nat} {ds : List (Status × Str)} {calls : List Call}
    (hw : s.selSerial = some want) (hc : s.scanCount = some count) (hle : count ≤ i) :
    phaseStep (scanningAt s i found ds calls) = .next (scanDecision (scanningAt s i found ds calls)) := by
  rw [phaseStep_enumDesc rfl]
  simp only [descriptorCall, scanningAt, hw, hc, reading_some, if_neg (Nat.not_lt.2 hle)]

/-- Every descriptor is read once, in ascending order, and the lowest match is kept. -/
theorem scan_many {count : Nat} {want : Str} (hw : s.selSerial = some want) (hc : s.scanCount = some count)
    (values : List Str) (ds : List (Status × Str)) (i n : Nat) (found : Option Nat) (calls : List Call)
    (hle : i + values.length ≤ count) :
    runWhile inSelect (n + values.length)
        (scanningAt s i found (values.map (fun v => ((0 : Status), v)) ++ ds) calls) =
      runWhile inSelect n (scanningAt s (i + values.length) (found.or (lowestMatch want i values)) ds
        (calls ++ scanCalls i values)) := by
  induction values generalizing i found calls with
  | nil => simp [lowestMatch, scanCalls]
  | cons value values ih =>
    rw [List.length_cons] at hle
    have hnext : (found.or (if normalise value = normalise want then some i else none)).or
        (lowestMatch want (i + 1) values) = found.or (lowestMatch want i (value :: values)) := by
      rw [lowestMatch, Option.or_assoc]
      split <;> rfl
    have hscanned : ∀ calls', scanned want value i (scanningAt s i found
        (values.map (fun v => ((0 : Status), v)) ++ ds) calls') =
        scanningAt s (i + 1) (found.or (if normalise value = normalise want then some i else none))
          (values.map (fun v => ((0 : Status), v)) ++ ds) calls' := by
      intro calls'
      cases found <;> simp [scanned, scanningAt]
    refine (runWhile_step (fuel := n + values.length) rfl
      (descriptorCall_returns (st := 0) hw hc (by omega))).trans ?_
    rw [if_neg (not_not.2 rfl)]
    refine (congrArg _ (hscanned _)).trans ((ih _ _ _ (by omega)).trans ?_)
    rw [hnext]
    simp [scanCalls, Nat.add_assoc, Nat.add_comm 1]

/-- `SELECT_SERIAL` up to its scan. -/
theorem exec_selectSerial_scans {serial : Str} {count : Nat} {cs : List (Status × Nat)} (hp : s.phase = .idle)
    (hc : s.configured = false) (hn : s.scanCount = none) (hq : s.transport.counts = (0, count) :: cs) :
    exec (.selectSerial serial) s = runWhile inSelect (s.transport.descriptors.length + 2)
      (scanningAt
        (countedAs count cs (beginOperation .enumCount { s with op := some .selectSerial, selSerial := some serial }))
        0 none s.transport.descriptors (s.calls ++ [.enumerateCount 0 count])) := by
  rw [exec_selectSerial serial hp hc]
  exact Eq.trans (runSelect_counts rfl hn hq) (runWhile_step rfl (scanStarts rfl rfl rfl))

/-- Settles O28: `scan_many` over all descriptors, then the decision. -/
theorem selectSerialScansEveryDevice : Obligations.SelectSerialScansEveryDevice := by
  intro s serial values cs ds hp hc hn hq hd
  have hfuel : s.transport.descriptors.length + 2 = ds.length + 1 + 1 + values.length := by simp [hd]; omega
  rw [exec_selectSerial_scans hp hc hn hq, hfuel, hd]
  refine (scan_many (want := serial) rfl rfl values ds 0 _ none _ (by omega)).trans ?_
  refine (runWhile_step rfl (scan_decision (want := serial) rfl rfl (by omega))).trans ?_
  rw [Option.none_or, scanDecision]
  cases hm : lowestMatch serial 0 values with
  | none =>
    simp only [scanningAt]
    rw [raise_select rfl rfl, runWhile_stop _ rfl]
    simp [hc, countedAs, goIdle, beginOperation, clearResults]
  | some found =>
    simp only [scanningAt]
    rw [configure, runWhile_stop _ rfl]
    simp [countedAs, goIdle, beginOperation, clearResults]

/-- Settles O29: `runSelect_countFails`, and the scan up to the failing call. -/
theorem selectSerialStopsAtAVendorError : Obligations.SelectSerialStopsAtAVendorError := by
  refine ⟨fun s serial count st cs hp hc hn hst hq => ?_,
    fun s serial value values count st cs ds hp hc hn hlt hst hq hd => ?_⟩
  · rw [exec_selectSerial serial hp hc]
    exact runSelect_countFails rfl hn rfl rfl hst hq
  · have hfuel : s.transport.descriptors.length + 2 = ds.length + 2 + 1 + values.length := by simp [hd]; omega
    rw [exec_selectSerial_scans hp hc hn hq, hfuel, hd]
    refine (scan_many (want := serial) rfl rfl values _ 0 _ none _ (by omega)).trans ?_
    refine (runWhile_step rfl (descriptorCall_returns (want := serial) rfl rfl (by omega))).trans ?_
    rw [if_pos hst, raiseDriver, raise_select rfl rfl, runWhile_stop _ rfl]
    simp [scanningAt, countedAs, goIdle, beginOperation, clearResults]

/-! ## Where a run can be -/

theorem Part.stays_inSelect (h : Part s t) (hI : Inv s) (hp : inSelect s.phase = true) :
    inSelect t.phase = true ∨ t.phase = .idle := by
  obtain hm | ⟨hm, -⟩ := h.moves hI
  · generalize s.phase = p at hm hp
    cases p <;> simp [successors, inSelect] at hm hp ⊢ <;> tauto
  · exact .inl (hm ▸ hp)

theorem Part.stays_inTransaction (h : Part s t) (hI : Inv s) (hp : inTransaction s.phase = true) :
    inTransaction t.phase = true ∨ t.phase = .idle := by
  obtain hm | ⟨hm, -⟩ := h.moves hI
  · generalize s.phase = p at hm hp
    cases p <;> simp [successors, inTransaction, inSelect] at hm hp ⊢ <;> grind
  · exact .inl (hm ▸ hp)

/-! ## What a failed select leaves (R113) -/

/-- A select operation since its issue in `s`: enumeration calls only, and an error leaves the block unconfigured. -/
structure SelectSince (s t : State) : Prop where
  inv : Inv t
  place : inSelect t.phase = true ∨ t.phase = .idle
  calls : ∃ made, t.calls = s.calls ++ made ∧ made.all isEnumeration = true
  failed : t.err ≠ .none → t.configured = false

theorem Part.select_calls (h : Part s t) (hp : inSelect s.phase = true) :
    ∃ made, t.calls = s.calls ++ made ∧ made.all isEnumeration = true := by
  have hph : s.phase = .enumCount ∨ s.phase = .enumDesc := by simpa [inSelect] using hp
  cases h with
  | counted | countFailed | described | descriptorFailed =>
    exact ⟨[_], by simp [returned, raiseDriver, scanned]; rfl, by simp [isEnumeration]⟩
  | indexChosen | indexOutOfRange | scanStarted | serialFound | serialNotFound => exact ⟨[], by simp, rfl⟩
  | opened hp' | callFailed hp' => obtain hph | hph := hph <;> simp [hph] at hp'
  | _ => obtain hph | hph := hph <;> simp_all

theorem Part.select_failed (h : Part s t) (hI : Inv s) (hp : inSelect s.phase = true) (he : t.err ≠ .none) :
    t.configured = false := by
  obtain ⟨hc, -, hf, -⟩ := hI.at_select hp
  cases h with
  | indexChosen | serialFound => exact absurd hf.err he
  | _ => simpa [returned, raiseDriver, scanned, closedWith, closeOutcome] using hc

theorem Part.selectSince (h : Part t u) (hs : SelectSince s t) (hp : inSelect t.phase = true) : SelectSince s u := by
  obtain ⟨hI, -, ⟨made, hmade, hall⟩, -⟩ := hs
  obtain ⟨more, hmore, hall'⟩ := h.select_calls hp
  exact ⟨h.inv hI, h.stays_inSelect hI hp, ⟨made ++ more, by rw [hmore, hmade, List.append_assoc],
    by rw [List.all_append, hall, hall', Bool.and_self]⟩, h.select_failed hI hp⟩

/-- Settles O31: `SelectSince` holds at the issue, and the parts keep it; at rest the invariant says the rest. -/
theorem failedSelectLeavesUnconfigured : Obligations.FailedSelectLeavesUnconfigured := by
  intro s t i hI hp hi h hpt he
  rw [exec_select hi] at h
  obtain ⟨u, hu, h⟩ := andThen_eq_next h
  have hissued := (issue_next hu).2
  have hsince : SelectSince s u := by
    refine ⟨hissued.inv hI hp, ?_, ⟨[], by rw [hissued.calls, List.append_nil], rfl⟩, ?_⟩
    · cases hissued with
      | discard => exact .inr rfl
      | transaction ht => obtain hi | hi := hi <;> simp [hi] at ht
      | _ => exact .inl rfl
    · cases hissued <;> exact fun h => absurd rfl h
  obtain ⟨hIt, -, ⟨made, hmade, hall⟩, hfailed⟩ := runWhile_keeps_within (P := SelectSince s)
    (fun a b hw ha hab => by
      obtain ⟨rfl, -⟩ | hpart := phaseStep_next hab
      · exact ha
      · exact hpart.selectSince ha hw) hsince h
  have hc := hfailed he
  have hnone : t.devIndex = none := Option.isNone_iff_eq_none.1 (by simpa [hc] using hIt.index)
  exact ⟨hc, hnone, (hIt.at_idle hpt).1, hIt.results.info, by rw [callsSince_eq hmade]; exact hall⟩

/-! ## Which errors an operation can end with (R211) -/

/-- The errors of each host operation. -/
def allowedErrors : HostOp → List ErrorCode
  | .selectIndex => [.none, .driverError, .rangeError]
  | .selectSerial => [.none, .driverError, .deviceNotFoundError]
  | .discard => [.none]
  | .writeRegisters => [.none, .driverError, .ioError, .timeoutError, .protocolError]
  | .readRegisters => [.none, .driverError, .ioError, .timeoutError, .protocolError]

/-- The error recorded is one of the operation in `OP`. -/
def ErrorAllowed (s : State) : Prop := ∀ op, s.op = some op → s.err ∈ allowedErrors op

theorem none_allowed (op : HostOp) : .none ∈ allowedErrors op := by cases op <;> decide

theorem errorAllowed_of_none (h : s.err = .none) : ErrorAllowed s := fun op _ => h ▸ none_allowed op

theorem ErrorAllowed.of_eq (h : ErrorAllowed s) (herr : t.err = s.err := by rfl) (hop : t.op = s.op := by rfl) :
    ErrorAllowed t := fun op ho => herr ▸ h op (hop ▸ ho)

theorem ErrorAllowed.raise {e : ErrorCode} {info : Option ErrorInfo} (h : ErrorAllowed s)
    (he : ∀ op, s.op = some op → e ∈ allowedErrors op) : ErrorAllowed (raise e info s) := by
  intro op ho
  rw [raise_op] at ho
  rw [raise_err, recordError]
  split
  · exact he op ho
  · exact h op ho

theorem Inv.at_transaction (h : Inv s) (hp : inTransaction s.phase = true) : InTransaction s := by
  have hph := h.phase
  cases hs : s.phase <;> simp only [phaseInv, hs] at hph <;> simp [inTransaction, inSelect, hs] at hp
  case opening | reopening | closing => exact hph.1
  all_goals exact hph.1.toInTransaction

theorem InTransaction.op (h : InTransaction s) : s.op = some .writeRegisters ∨ s.op = some .readRegisters := by
  have ht := h.isTransaction
  unfold Machine.isTransaction at ht
  split at ht
  next ho => exact .inl ho
  next ho => exact .inr ho
  · cases ht

/-- A transaction can end with the errors of its body. -/
theorem Inv.bodyError_allowed {e : ErrorCode} (h : Inv s) (hp : inTransaction s.phase = true)
    (he : isBodyError e = true) (op : HostOp) (ho : s.op = some op) : e ∈ allowedErrors op := by
  have hmem : e ∈ allowedErrors .writeRegisters := by
    simp only [isBodyError, Bool.or_eq_true, decide_eq_true_eq, or_assoc] at he
    simpa [allowedErrors] using .inr he
  obtain hop | hop := (h.at_transaction hp).op <;> rw [hop] at ho <;> cases ho <;> exact hmem

theorem Inv.driverError_allowed (h : Inv s) (hp : s.phase ≠ .idle) (op : HostOp) (ho : s.op = some op) :
    .driverError ∈ allowedErrors op := by
  cases hs : inSelect s.phase with
  | true =>
    obtain ⟨-, -, -, -, hop | hop⟩ := h.at_select hs <;> rw [hop] at ho <;> cases ho <;> decide
  | false => exact h.bodyError_allowed (by simp [inTransaction, hp, hs]) rfl op ho

theorem Part.errorAllowed (h : Part s t) (hI : Inv s) (hs : ErrorAllowed s) : ErrorAllowed t := by
  cases h with
  | countFailed hp | descriptorFailed hp | openFailed hp | timeoutsFailed hp | pollFailed hp =>
    exact ErrorAllowed.raise hs.of_eq (hI.driverError_allowed (by rintro h0; simp [h0, inSelect] at hp))
  | indexOutOfRange hp hc ho => exact hs.raise fun op hop => by rw [ho] at hop; cases hop; decide
  | serialNotFound hp =>
    have hph := hI.phase
    simp only [phaseInv, hp] at hph
    obtain ⟨-, -, -, -, ho, -⟩ := hph
    exact hs.raise fun op hop => by rw [ho] at hop; cases hop; decide
  | callFailed hp _ _ he =>
    exact ErrorAllowed.raise hs.of_eq (hI.bodyError_allowed
      (by obtain hp | hp | hp := hp <;> simp [inTransaction, inSelect, hp]) he)
  | timedOut hp =>
    exact ErrorAllowed.raise hs.of_eq (hI.bodyError_allowed (by simp [inTransaction, inSelect, hp]) rfl)
  | checkFailed hp he => exact hs.raise (hI.bodyError_allowed (by simp [inTransaction, inSelect, hp]) he)
  | @closed a k st draws hp =>
    intro op hop
    change (if st ≠ 0 ∧ s.err = .none then .driverError else s.err) ∈ allowedErrors op
    split
    · exact hI.driverError_allowed (by simp [hp]) op hop
    · exact hs op hop
  | _ => exact hs.of_eq

theorem Issued.errorAllowed {i : Instr} (h : Issued s i t) : ErrorAllowed t := by
  refine errorAllowed_of_none ?_
  cases h <;> rfl

/-- What a run of an operation records is an error of that operation. -/
theorem runWhile_errorAllowed {within : Phase → Bool} {fuel : Nat} (hI : Inv s) (hs : ErrorAllowed s)
    (h : runWhile within fuel s = .next t) : t.op = s.op ∧ ErrorAllowed t := by
  have hkeep := runWhile_keeps (P := fun a => Inv a ∧ a.op = s.op ∧ ErrorAllowed a)
    (fun a b ⟨hIa, ho, ha⟩ hab => by
      obtain ⟨rfl, -⟩ | hpart := phaseStep_next hab
      · exact ⟨hIa, ho, ha⟩
      · exact ⟨hpart.inv hIa, hpart.operandsKept.op.trans ho, hpart.errorAllowed hIa ha⟩) ⟨hI, rfl, hs⟩ h
  exact hkeep.2

/-- Settles O44: `ErrorAllowed` holds at the issue, and the parts keep it. -/
theorem operationsRaiseOnlyTheirErrors : Obligations.OperationsRaiseOnlyTheirErrors := by
  intro i s t hI hp h
  refine ⟨fun hi => ?_, fun hi => ?_, fun hi => ?_, fun hi => ?_⟩
  · rw [exec_select (.inl hi)] at h
    obtain ⟨u, hu, h⟩ := andThen_eq_next h
    have hissued := (issue_next hu).2
    obtain ⟨ho, herr⟩ := runWhile_errorAllowed (hissued.inv hI hp) hissued.errorAllowed h
    cases hissued with
    | selectIndex => simpa [allowedErrors] using herr _ ho
    | transaction ht => simp [hi] at ht
    | _ => cases hi
  · rw [exec_select (.inr hi)] at h
    obtain ⟨u, hu, h⟩ := andThen_eq_next h
    have hissued := (issue_next hu).2
    obtain ⟨ho, herr⟩ := runWhile_errorAllowed (hissued.inv hI hp) hissued.errorAllowed h
    cases hissued with
    | selectSerial => simpa [allowedErrors] using herr _ ho
    | transaction ht => simp [hi] at ht
    | _ => cases hi
  · cases i with
    | discard =>
      have hissued := (issue_next (i := .discard) h).2
      cases hissued with
      | discard => rfl
      | transaction ht => simp [Instr.hostOp] at ht
    | _ => cases hi
  · rw [exec_transaction hi] at h
    obtain ⟨u, hu, h⟩ := andThen_eq_next h
    have hissued := (issue_next hu).2
    have hIu := hissued.inv hI hp
    obtain ⟨ho, herr⟩ := runWhile_errorAllowed hIu hissued.errorAllowed h
    have hphase : inTransaction u.phase = true := by
      cases hissued with
      | transaction => rfl
      | _ => simp [Instr.hostOp] at hi
    obtain hop | hop := (hIu.at_transaction hphase).op <;> have hmem := herr _ (ho.trans hop) <;>
      constructor <;> rintro h0 <;> simp [h0, allowedErrors] at hmem

end Sys2Proof.Machine
end

section

/-! # Bounds: every operation comes to rest (R251) -/

namespace Sys2Proof.Machine

variable {s t u : State} {within : Phase → Bool}

/-! ## Runs with a measure -/

/-- A run whose parts lower the measure `μ` comes to rest within that many parts. -/
theorem runWhile_settles {μ : State → Nat} (hidle : within .idle = false)
    (hstep : ∀ a b, Inv a → within a.phase = true → Part a b →
      μ b < μ a ∧ (within b.phase = true ∨ b.phase = .idle))
    {fuel : Nat} (hI : Inv s) (hp : within s.phase = true ∨ s.phase = .idle) (hle : μ s ≤ fuel) :
    ∃ t, runWhile within fuel s = .next t ∧ settled t = true := by
  induction fuel generalizing s with
  | zero =>
    refine ⟨s, rfl, ?_⟩
    obtain hw | hp := hp
    · obtain ⟨t, ht⟩ := hI.phaseStep_answers
      obtain ⟨-, hs⟩ | hpart := phaseStep_next ht
      · exact hs
      · have hlt := (hstep s t hI hw hpart).1
        omega
    · simp [settled, hp]
  | succ fuel ih =>
    obtain hw | hp := hp
    · obtain ⟨t, ht⟩ := hI.phaseStep_answers
      obtain ⟨rfl, hs⟩ | hpart := phaseStep_next ht
      · exact ⟨t, runWhile_blocked _ ht, hs⟩
      · obtain ⟨hlt, hp⟩ := hstep s t hI hw hpart
        rw [runWhile_step hw ht]
        exact ih (hpart.inv hI) hp (by omega)
    · exact ⟨s, runWhile_stop _ (hp ▸ hidle), by simp [settled, hp]⟩

/-- A run each of whose calls counted by `p` lowers the allowance `ν` makes no more of them than that. -/
theorem runWhile_callBound {p : Call → Bool} {ν : State → Nat}
    (hstep : ∀ a b, Inv a → within a.phase = true → Part a b →
      b.calls.countP p + ν b ≤ a.calls.countP p + ν a)
    {fuel : Nat} (hI : Inv s) (h : runWhile within fuel s = .next t) :
    t.calls.countP p ≤ s.calls.countP p + ν s := by
  obtain ⟨-, hle⟩ := runWhile_keeps_within
    (P := fun a => Inv a ∧ a.calls.countP p + ν a ≤ s.calls.countP p + ν s)
    (fun a b hw ⟨hIa, ha⟩ hab => by
      obtain ⟨rfl, -⟩ | hpart := phaseStep_next hab
      · exact ⟨hIa, ha⟩
      · exact ⟨hpart.inv hIa, (hstep a b hIa hw hpart).trans ha⟩) ⟨hI, le_rfl⟩ h
  omega

theorem runWhile_calls {fuel : Nat} (h : runWhile within fuel s = .next t) : t.calls = s.calls ++ callsSince s t := by
  obtain ⟨made, hmade⟩ := runWhile_relates (R := fun a b => ∃ made, b.calls = a.calls ++ made)
    (fun _ => ⟨[], (List.append_nil _).symm⟩)
    (fun _ _ _ ⟨m, hm⟩ ⟨n, hn⟩ => ⟨m ++ n, by rw [hn, hm, List.append_assoc]⟩)
    (fun a b hab => by
      obtain ⟨rfl, -⟩ | hpart := phaseStep_next hab
      · exact ⟨[], (List.append_nil _).symm⟩
      · obtain hc | ⟨c, hc⟩ := hpart.calls
        · exact ⟨[], hc.trans (List.append_nil _).symm⟩
        · exact ⟨[c], hc⟩) h
  rw [callsSince_eq hmade, hmade]

/-! ## The select operations -/

/-- How many parts of a select operation are left at most. -/
def selectPartsLeft (s : State) : Nat :=
  match s.phase with
  | .enumCount => s.transport.descriptors.length + if s.scanCount.isSome then 2 else 3
  | .enumDesc => s.transport.descriptors.length + 1
  | _ => 0

/-- How many calls of a select operation are left at most: the count, then one for each device. -/
def selectCallsLeft (s : State) : Nat :=
  match s.phase with
  | .enumCount => s.scanCount.getD (1 + (s.transport.counts.head?.map Prod.snd).getD 0)
  | .enumDesc => s.scanCount.getD 0 - s.scanIdx.getD 0
  | _ => 0

theorem selectPartsLeft_idle (h : s.phase = .idle) : selectPartsLeft s = 0 := by simp [selectPartsLeft, h]

theorem selectCallsLeft_idle (h : s.phase = .idle) : selectCallsLeft s = 0 := by simp [selectCallsLeft, h]

theorem Inv.enumCount_of_noCount (h : Inv s) (hp : inSelect s.phase = true) (hn : s.scanCount = none) :
    s.phase = .enumCount := by
  obtain hp | hp : s.phase = .enumCount ∨ s.phase = .enumDesc := by simpa [inSelect] using hp
  · exact hp
  · have hph := h.phase
    simp only [phaseInv, hp] at hph
    obtain ⟨-, -, -, -, -, -, -, c, -, hc, -⟩ := hph
    simp [hn] at hc

/-- Each part of a select operation is one of those left, and so is its call. -/
theorem Part.select_spends (h : Part s t) (hI : Inv s) (hp : inSelect s.phase = true) :
    selectPartsLeft t < selectPartsLeft s ∧
      t.calls.length + selectCallsLeft t ≤ s.calls.length + selectCallsLeft s := by
  have hph : s.phase = .enumCount ∨ s.phase = .enumDesc := by simpa [inSelect] using hp
  have hpos : 0 < selectPartsLeft s := by
    obtain hph | hph := hph <;> simp only [selectPartsLeft, hph]
    · split <;> omega
    · omega
  have hraise {u : State} (e : ErrorCode) (info : Option ErrorInfo) (hd : closeDue u = closeDue s)
      (hc : u.calls.length ≤ s.calls.length + selectCallsLeft s) :
      selectPartsLeft (raise e info u) < selectPartsLeft s ∧
        (raise e info u).calls.length + selectCallsLeft (raise e info u) ≤ s.calls.length + selectCallsLeft s := by
    have hph := hI.raise_select_phase (e := e) (info := info) hp hd
    rw [selectPartsLeft_idle hph, selectCallsLeft_idle hph, raise_calls]
    exact ⟨hpos, hc⟩
  cases h with
  | counted _ hn hq hd =>
    have hph := hI.enumCount_of_noCount hp hn
    simp [selectPartsLeft, selectCallsLeft, returned, hph, hn, hq, hd]
    omega
  | countFailed _ hn hst =>
    refine hraise _ _ rfl ?_
    simp [returned, selectCallsLeft, hI.enumCount_of_noCount hp hn, hn]
  | scanStarted hp' hc => simp [selectPartsLeft, selectCallsLeft, hp', hc]
  | described hp' hi hc hlt hd =>
    simp [selectPartsLeft, selectCallsLeft, scanned, returned, hp', hi, hc, hd]
    omega
  | descriptorFailed hp' hi hc hlt hst =>
    refine hraise _ _ rfl ?_
    simp [returned, selectCallsLeft, hp', hi, hc]
    omega
  | indexChosen | serialFound => exact ⟨hpos, Nat.le_add_right _ _⟩
  | indexOutOfRange | serialNotFound => exact hraise _ _ rfl (Nat.le_add_right _ _)
  | opened hp' | callFailed hp' => obtain hph | hph := hph <;> simp [hph] at hp'
  | _ => obtain hph | hph := hph <;> simp_all

theorem Issued.select_start {i : Instr} (h : Issued s i t)
    (hi : i.hostOp = some .selectIndex ∨ i.hostOp = some .selectSerial) :
    t.phase = .enumCount ∧ t.scanCount = s.scanCount ∧ t.transport = s.transport := by
  cases h with
  | transaction ht => obtain hi | hi := hi <;> simp [hi] at ht
  | discard => simp [Instr.hostOp] at hi
  | _ => exact ⟨rfl, rfl, rfl⟩

/-- Settles O52: `Part.select_spends` over the run of the operation. -/
theorem selectsAreBounded : Obligations.SelectsAreBounded := by
  intro s i st count rest hI hp hi hq
  rw [exec_select hi]
  cases hissue : issue i s with
  | refused r => exact .inl ⟨r, rfl⟩
  | fault f => cases f
  | next u =>
    refine .inr ?_
    have hissued := (issue_next hissue).2
    have hIu := hissued.inv hI hp
    obtain ⟨hpu, hnu, htu⟩ := hissued.select_start hi
    rw [(hI.at_idle hp).2.1.count] at hnu
    obtain ⟨t, ht, hs⟩ := runWhile_settles (within := inSelect) (μ := selectPartsLeft) rfl
      (fun a b hIa hw hpart => ⟨(hpart.select_spends hIa hw).1, hpart.stays_inSelect hIa hw⟩) hIu
      (.inl (by rw [hpu]; rfl)) (fuel := selectParts u) (by simp [selectPartsLeft, selectParts, hpu, hnu])
    have hbound := runWhile_callBound (p := fun _ => true) (ν := selectCallsLeft)
      (fun a b hIa hw hpart => by simpa using (hpart.select_spends hIa hw).2) hIu ht
    have hcalls := runWhile_calls ht
    have hsince : callsSince u t = callsSince s t := by rw [callsSince, callsSince, hissued.calls]
    rw [hissued.calls, hsince] at hcalls
    refine ⟨t, ht, hs, hcalls, ?_⟩
    simp [selectCallsLeft, hpu, hnu, htu, hq, hcalls, hissued.calls] at hbound
    omega

/-! ## The transactions -/

/-- How many polls `POLL` can still make (R174). -/
def pollsLeft (s : State) : Nat := Config.pollLimit - s.pollCnt.getD 0

/-- How many parts of a transaction are left at most: three for each poll, and one to three for each of the others. -/
def partsLeft (s : State) : Nat :=
  match s.phase with
  | .opening => if s.setTimeoutsDue then 308 else 309
  | .build => 307
  | .flushing => 306
  | .transmitting => 305
  | .polling => 3 * pollsLeft s + if s.qstatus.isSome then 6 else 4
  | .waiting => 3 * pollsLeft s + 5
  | .receiving => 5
  | .checking => 4
  | .reopening => if s.setTimeoutsDue then 2 else 3
  | .closing => 1
  | _ => 0

/-- How many calls of the transport are left at most (R251): the close sequence makes two in an open session, and three
after a failed open. -/
def transportCallsLeft (s : State) : Nat :=
  match s.phase with
  | .opening => if s.setTimeoutsDue then 106 else 107
  | .build => 105
  | .flushing => 105
  | .transmitting => 104
  | .polling => pollsLeft s + 3
  | .waiting => pollsLeft s + 3
  | .receiving => 3
  | .checking => 2
  | .reopening => if s.isOpen || s.setTimeoutsDue then 2 else 3
  | .closing => 1
  | _ => 0

/-- How many sleeps are left at most (R174, R251): one after each poll. -/
def sleepsLeft (s : State) : Nat :=
  match s.phase with
  | .opening => 100
  | .build => 100
  | .flushing => 100
  | .transmitting => 100
  | .polling => pollsLeft s + if s.qstatus.isSome then 1 else 0
  | .waiting => pollsLeft s + 1
  | _ => 0

/-- From `s` to `t` one part is spent, and each call made was one of those left. -/
structure Spends (s t : State) : Prop where
  parts : partsLeft t < partsLeft s
  transport : t.calls.countP (fun c => !isSleep c) + transportCallsLeft t ≤
    s.calls.countP (fun c => !isSleep c) + transportCallsLeft s
  sleeps : t.calls.countP isSleep + sleepsLeft t ≤ s.calls.countP isSleep + sleepsLeft s

theorem left_of_opening (hp : s.phase = .opening) :
    partsLeft s ≤ transactionParts ∧ transportCallsLeft s ≤ 107 ∧ sleepsLeft s = 100 := by
  simp only [partsLeft, transportCallsLeft, sleepsLeft, hp, transactionParts, pollParts, Config.pollLimit]
  cases s.setTimeoutsDue <;> simp

theorem raise_closes_or_ends (e : ErrorCode) (info : Option ErrorInfo) (s : State) :
    (raise e info s).phase = .reopening ∨ (raise e info s).phase = .idle := by
  rw [raise_phase]
  split
  · exact .inl rfl
  · exact .inr rfl

theorem partsLeft_raise (e : ErrorCode) (info : Option ErrorInfo) (s : State) : partsLeft (raise e info s) ≤ 3 := by
  obtain hp | hp := raise_closes_or_ends e info s <;> simp only [partsLeft, hp]
  · split <;> omega
  · omega

theorem sleepsLeft_raise (e : ErrorCode) (info : Option ErrorInfo) (s : State) : sleepsLeft (raise e info s) = 0 := by
  obtain hp | hp := raise_closes_or_ends e info s <;> simp only [sleepsLeft, hp]

theorem transportCallsLeft_raise (e : ErrorCode) (info : Option ErrorInfo) (s : State) :
    transportCallsLeft (raise e info s) ≤ if s.isOpen then 2 else 3 := by
  obtain hp | hp := raise_closes_or_ends e info s <;> simp only [transportCallsLeft, hp, raise_isOpen]
  · cases s.isOpen
    · split <;> simp
    · rfl
  · exact Nat.zero_le _

/-- An error spends what its close sequence does not need. -/
theorem spends_raise {e : ErrorCode} {info : Option ErrorInfo} (hp : 3 < partsLeft s)
    (ht : u.calls.countP (fun c => !isSleep c) + (if u.isOpen then 2 else 3) ≤
      s.calls.countP (fun c => !isSleep c) + transportCallsLeft s)
    (hs : u.calls.countP isSleep ≤ s.calls.countP isSleep + sleepsLeft s) : Spends s (raise e info u) := by
  have hparts := partsLeft_raise e info u
  have hcalls := transportCallsLeft_raise e info u
  refine ⟨by omega, ?_, ?_⟩
  · rw [raise_calls]
    omega
  · rw [raise_calls, sleepsLeft_raise]
    exact hs

theorem isSleep_of_isBodyCall {c : Call} (h : isBodyCall c = true) : isSleep c = false := by
  cases c <;> simp_all [isBodyCall, isSleep]

theorem Part.spends (h : Part s t) (hI : Inv s) (hp : inTransaction s.phase = true) : Spends s t := by
  have hinv := hI.phase
  cases h with
  | opened hp' hd ho =>
    obtain hp' | ⟨hp', -⟩ := hp' <;>
      constructor <;> simp [partsLeft, transportCallsLeft, sleepsLeft, returned, isSleep, hp', hd, ho]
  | openFailed hp' hd ho hst =>
    exact spends_raise (by simp [partsLeft, hp', hd]) (by simp [transportCallsLeft, returned, isSleep, hp', hd, ho])
      (by simp [returned, isSleep])
  | timeoutsSet hp' hd =>
    constructor <;> simp [partsLeft, transportCallsLeft, sleepsLeft, returned, isSleep, hp', hd]
  | timeoutsFailed hp' hd hst =>
    simp only [phaseInv, hp'] at hinv
    obtain ⟨-, -, ho, -⟩ := hinv
    exact spends_raise (by simp [partsLeft, hp', hd])
      (by simp [transportCallsLeft, returned, isSleep, hp', hd, ho]) (by simp [returned, isSleep])
  | alreadyOpen hp' hd ho =>
    constructor <;> simp [partsLeft, transportCallsLeft, sleepsLeft, hp', hd]
  | reopenFailed hp' hm hst =>
    constructor <;> simp [partsLeft, transportCallsLeft, sleepsLeft, returned, isSleep, hp'] <;> split <;> omega
  | reopenTimeouts hp' hm hd =>
    constructor <;> simp [partsLeft, transportCallsLeft, sleepsLeft, returned, isSleep, hp', hd]
  | reopenSkipped hp' hm hd ho =>
    constructor <;> simp [partsLeft, transportCallsLeft, sleepsLeft, hp', hd, ho]
  | reopenedAlways hp' hm =>
    constructor <;> simp [partsLeft, transportCallsLeft, sleepsLeft, returned, isSleep, hp'] <;> split <;> omega
  | built hp' hb => constructor <;> simp [partsLeft, transportCallsLeft, sleepsLeft, hp', loadRequest]
  | flushed hp' =>
    constructor <;> simp [partsLeft, transportCallsLeft, sleepsLeft, returned, isSleep, hp']
  | sent hp' hf =>
    constructor <;> simp [partsLeft, transportCallsLeft, sleepsLeft, returned, isSleep, hp', transmitted, pollsLeft,
      Config.pollLimit]
  | @polledOnce a k h polls available code hp' hq hc =>
    simp only [phaseInv, hp'] at hinv
    obtain ⟨-, -, -, -, c, hc', hcount⟩ := hinv
    obtain rfl := Option.some.inj (hc.symm.trans hc')
    have hlt : polls < Config.pollLimit := hcount.elim And.right fun h => by simp [hq] at h
    constructor <;>
      simp [partsLeft, transportCallsLeft, sleepsLeft, returned, isSleep, hp', hc, hq, polled, pollsLeft] <;> omega
  | @decided code hp' hq =>
    constructor <;> cases hr : isReady code <;>
      simp [partsLeft, transportCallsLeft, sleepsLeft, hp', hq, pollDecided, hr, pollsLeft]
  | waited hp' hc hl =>
    simp only [phaseInv, hp'] at hinv
    obtain ⟨-, -, -, -, hq, -⟩ := hinv
    constructor <;> simp [partsLeft, transportCallsLeft, sleepsLeft, returned, isSleep, hp', hc, hq, pollsLeft]
    omega
  | received hp' hn hl =>
    constructor <;> simp [partsLeft, transportCallsLeft, sleepsLeft, returned, isSleep, hp']
  | writeAnswered hp' ho hn | readAnswered hp' =>
    simp only [phaseInv, hp'] at hinv
    obtain ⟨hb, -⟩ := hinv
    constructor <;> simp [partsLeft, transportCallsLeft, sleepsLeft, hp', responseTaken, hb.session, hb.due]
  | callFailed hp' ho hcall =>
    have hsleep := isSleep_of_isBodyCall hcall
    obtain hp' | hp' | hp' := hp' <;>
      exact spends_raise (by simp [partsLeft, hp']) (by simp [transportCallsLeft, returned, hsleep, hp', ho])
        (by simp [returned, hsleep])
  | pollFailed hp' hq hc ho hst =>
    simp only [phaseInv, hp'] at hinv
    obtain ⟨-, -, -, -, c, hc', hcount⟩ := hinv
    obtain rfl := Option.some.inj (hc.symm.trans hc')
    exact spends_raise (by simp [partsLeft, hp', hq])
      (by simp [transportCallsLeft, returned, isSleep, polled, hp', ho]; omega) (by simp [returned, isSleep, polled])
  | timedOut hp' hc =>
    simp only [phaseInv, hp'] at hinv
    obtain ⟨hb, -⟩ := hinv
    exact spends_raise (by simp [partsLeft, hp'])
      (by simp [transportCallsLeft, returned, isSleep, hp', hb.session])
      (by simp [returned, isSleep, sleepsLeft, hp'])
  | checkFailed hp' he =>
    simp only [phaseInv, hp'] at hinv
    obtain ⟨hb, -⟩ := hinv
    exact spends_raise (by simp [partsLeft, hp']) (by simp [transportCallsLeft, hp', hb.session])
      (Nat.le_add_right _ _)
  | closed hp' =>
    constructor <;> simp [partsLeft, transportCallsLeft, sleepsLeft, returned, isSleep, hp', closedWith, closeOutcome]
  | counted hp' | countFailed hp' => simp [inTransaction, hp'] at hp
  | indexChosen hp' | indexOutOfRange hp' | scanStarted hp' | described hp' | descriptorFailed hp' | serialFound hp'
    | serialNotFound hp' => simp [inTransaction, inSelect, hp'] at hp

/-- A transaction that has been issued: its operands are loaded, and it is about to open its session. -/
theorem Issued.transaction_start {i : Instr} (h : Issued s i t)
    (hi : i.hostOp = some .writeRegisters ∨ i.hostOp = some .readRegisters) :
    ∃ s1, loaded i s = some s1 ∧ s.configured = true ∧ t = beginOperation .opening s1 := by
  cases h with
  | transaction _ hc hl => exact ⟨_, hl, hc, rfl⟩
  | _ => simp [Instr.hostOp] at hi

/-- Settles O51: `Part.spends` over the run of the operation. -/
theorem transactionsAreBounded : Obligations.TransactionsAreBounded := by
  intro s i hI hp hi
  rw [exec_transaction hi]
  cases hissue : issue i s with
  | refused r => exact .inl ⟨r, rfl⟩
  | fault f => cases f
  | next u =>
    refine .inr ?_
    have hissued := (issue_next hissue).2
    have hIu := hissued.inv hI hp
    obtain ⟨s1, -, -, rfl⟩ := hissued.transaction_start hi
    obtain ⟨hparts, htransports, hsleep⟩ := left_of_opening (s := beginOperation .opening s1) rfl
    obtain ⟨t, ht, hs⟩ := runWhile_settles (within := inTransaction) (μ := partsLeft) rfl
      (fun a b hIa hw hpart => ⟨(hpart.spends hIa hw).parts, hpart.stays_inTransaction hIa hw⟩) hIu (.inl rfl)
      hparts
    have htransport := runWhile_callBound (ν := transportCallsLeft)
      (fun a b hIa hw hpart => (hpart.spends hIa hw).transport) hIu ht
    have hsleeps := runWhile_callBound (ν := sleepsLeft) (fun a b hIa hw hpart => (hpart.spends hIa hw).sleeps) hIu ht
    have hcalls := runWhile_calls ht
    rw [callsSince, hissued.calls, ← callsSince] at hcalls
    rw [hissued.calls, hcalls, List.countP_append] at htransport hsleeps
    exact ⟨t, ht, hs, hcalls, by omega, by omega⟩

end Sys2Proof.Machine
end

section

/-! # Opening and closing (R128): what a transaction has called since its issue, phase by phase -/

namespace Sys2Proof.Machine

variable {s t u : State} {made : List Call}

/-- While the session is being opened: no call, or the open that succeeded. -/
structure OpeningTrace (due : Bool) (made : List Call) : Prop where
  noClose : ∀ c ∈ made, isCloseCall c = false
  opened : made.any isOpened = due
  opens : made.countP isOpenCall = if due then 1 else 0

/-- In the body: one open, which succeeded. -/
structure BodyTrace (made : List Call) : Prop where
  noClose : ∀ c ∈ made, isCloseCall c = false
  opened : made.any isOpened = true
  opens : made.countP isOpenCall = 1

/-- In the close sequence: a close is due, and with the default parameters the one open has opened the session. -/
structure CloseTrace (p : Params) (isOpen : Bool) (made : List Call) : Prop where
  noClose : ∀ c ∈ made, isCloseCall c = false
  due : p.closeAfterOpenFailure = true ∨ made.any isOpened = true
  opens : p.closeAfterOpenFailure = false → p.reopenInClose = .viaFlag → made.countP isOpenCall = 1 ∧ isOpen = true

/-- At the end: what R128 says. -/
structure EndTrace (p : Params) (made : List Call) : Prop where
  closes : made.countP isCloseCall = if p.closeAfterOpenFailure = true ∨ made.any isOpened = true then 1 else 0
  last : ∀ c ∈ made.dropLast, isCloseCall c = false
  opens : p.closeAfterOpenFailure = false → p.reopenInClose = .viaFlag → made.countP isOpenCall = 1

def SessionTrace (s : State) (made : List Call) : Prop :=
  match s.phase with
  | .opening => OpeningTrace s.setTimeoutsDue made
  | .reopening => CloseTrace s.params s.isOpen made
  | .closing => CloseTrace s.params s.isOpen made
  | .idle => EndTrace s.params made
  | _ => BodyTrace made

theorem forall_mem_concat {p : Call → Prop} {c : Call} (h : ∀ x ∈ made, p x) (hc : p c) :
    ∀ x ∈ made ++ [c], p x := List.forall_mem_append.2 ⟨h, List.forall_mem_singleton.2 hc⟩

theorem BodyTrace.concat {c : Call} (h : BodyTrace made) (hc : isCloseCall c = false)
    (ho : isOpenCall c = false) : BodyTrace (made ++ [c]) :=
  ⟨forall_mem_concat h.noClose hc, by rw [List.any_append, h.opened, Bool.true_or],
    by rw [List.countP_append, h.opens, List.countP_singleton, ho]; rfl⟩

theorem BodyTrace.close (h : BodyTrace made) (p : Params) : CloseTrace p true made :=
  ⟨h.noClose, .inr h.opened, fun _ _ => ⟨h.opens, rfl⟩⟩

/-- A call of the close sequence before its close. -/
theorem CloseTrace.concat {p : Params} {o : Bool} {c : Call} (h : CloseTrace p o made) (o' : Bool)
    (hc : isCloseCall c = false)
    (ho : p.closeAfterOpenFailure = false → p.reopenInClose = .viaFlag → isOpenCall c = false ∧ o' = o) :
    CloseTrace p o' (made ++ [c]) := by
  refine ⟨forall_mem_concat h.noClose hc, ?_, fun h1 h2 => ?_⟩
  · rw [List.any_append, Bool.or_eq_true]
    exact h.due.imp_right .inl
  · obtain ⟨hopens, hopen⟩ := h.opens h1 h2
    obtain ⟨hcall, ho⟩ := ho h1 h2
    exact ⟨by rw [List.countP_append, hopens, List.countP_singleton, hcall]; rfl, ho.trans hopen⟩

/-- The close ends it. -/
theorem CloseTrace.closed {p : Params} {o : Bool} (h : CloseTrace p o made) (hd : Handle) (st : Status) :
    EndTrace p (made ++ [.close hd st]) := by
  have hnone : made.countP isCloseCall = 0 := List.countP_eq_zero.2 fun c hc => by simp [h.noClose c hc]
  have hdue : p.closeAfterOpenFailure = true ∨ (made ++ [Call.close hd st]).any isOpened = true := by
    rw [List.any_append, Bool.or_eq_true]
    exact h.due.imp_right .inl
  refine ⟨?_, ?_, fun h1 h2 => ?_⟩
  · rw [if_pos hdue, List.countP_append, hnone]
    rfl
  · rw [List.dropLast_concat]
    exact h.noClose
  · rw [List.countP_append, (h.opens h1 h2).1]
    rfl

theorem sessionTrace_body (hp : inBody s.phase = true) : SessionTrace s made ↔ BodyTrace made := by
  unfold SessionTrace
  cases hs : s.phase <;> simp [inBody, hs] at hp <;> rfl

theorem sessionTrace_raise_body {e : ErrorCode} {info : Option ErrorInfo} (hI : Inv s)
    (hp : inBody s.phase = true) (hm : BodyTrace made) (ho : u.isOpen = s.isOpen := by rfl)
    (hd : closeDue u = closeDue s := by rfl) : SessionTrace (raise e info u) made := by
  simp only [SessionTrace, hI.raise_body_phase hp hd, raise_isOpen, ho, (hI.at_body hp).1.session]
  exact hm.close _

theorem isBodyCall_trace {c : Call} (h : isBodyCall c = true) : isCloseCall c = false ∧ isOpenCall c = false := by
  cases c <;> simp_all [isBodyCall, isCloseCall, isOpenCall]

/-- A failed open: the close sequence follows only if the parameter asks for it (R126 (c)). -/
theorem OpeningTrace.failed {e : ErrorCode} {info : Option ErrorInfo} {c : Call} (h : OpeningTrace false made)
    (ht : isTransaction u = true) (hp : u.phase = .opening) (ho : u.isOpen = false) (hc : isCloseCall c = false)
    (hopen : isOpenCall c = true) (hopened : isOpened c = false) : SessionTrace (raise e info u) (made ++ [c]) := by
  have hnone := forall_mem_concat h.noClose hc
  have hany : (made ++ [c]).any isOpened = false := by simp [h.opened, hopened]
  have hone : (made ++ [c]).countP isOpenCall = 1 := by simp [h.opens, hopen]
  cases hcf : u.params.closeAfterOpenFailure with
  | true =>
    have hdue : closeDue u = true := by simp [closeDue, ht, hp, hcf]
    simp only [SessionTrace, raise_phase, hdue, if_true, raise_params]
    exact ⟨hnone, .inl hcf, fun h1 => by simp [hcf] at h1⟩
  | false =>
    have hdue : closeDue u = false := by simp [closeDue, ho, hcf]
    simp only [SessionTrace, raise_phase, hdue, Bool.false_eq_true, if_false, raise_params]
    refine ⟨?_, fun c hc => hnone c (List.dropLast_subset _ hc), fun _ _ => hone⟩
    rw [if_neg (by simp [hcf, hany]), List.countP_eq_zero]
    exact fun c hc => by simp [hnone c hc]

theorem Part.body_sessionTrace (h : Part s t) (hI : Inv s) (hp : inBody s.phase = true) (hm : BodyTrace made) :
    ∃ more, t.calls = s.calls ++ more ∧ SessionTrace t (made ++ more) := by
  have hbody := (hI.at_body hp).1
  cases h with
  | built => exact ⟨[], by simp, by simpa [SessionTrace] using hm⟩
  | flushed | sent | received | waited => exact ⟨[_], rfl, (sessionTrace_body rfl).2 (hm.concat rfl rfl)⟩
  | polledOnce => exact ⟨[_], rfl, (sessionTrace_body (by exact hp)).2 (hm.concat rfl rfl)⟩
  | @decided code =>
    refine ⟨[], by simp, ?_⟩
    cases hr : isReady code <;> simpa [SessionTrace, pollDecided, hr] using hm
  | writeAnswered | readAnswered =>
    exact ⟨[], by simp, by simpa [SessionTrace, responseTaken, hbody.session] using hm.close _⟩
  | callFailed _ _ hcall =>
    obtain ⟨hc, ho⟩ := isBodyCall_trace hcall
    exact ⟨[_], by simp [returned], sessionTrace_raise_body hI hp (hm.concat hc ho)⟩
  | pollFailed =>
    exact ⟨[_], by simp [returned, raiseDriver, polled]; rfl, sessionTrace_raise_body hI hp (hm.concat rfl rfl)⟩
  | timedOut => exact ⟨[_], by simp [returned]; rfl, sessionTrace_raise_body hI hp (hm.concat rfl rfl)⟩
  | checkFailed => exact ⟨[], by simp, by simpa using sessionTrace_raise_body hI hp hm⟩
  | counted hp' | countFailed hp' =>
    generalize s.phase = p at hp hp'
    cases p <;> simp [inBody, inSelect] at hp hp'
  | opened hp' => obtain hp' | ⟨hp', -⟩ := hp' <;> simp [inBody, hp'] at hp
  | _ => simp_all [inBody]

theorem Part.sessionTrace (h : Part s t) (hI : Inv s) (hp : inTransaction s.phase = true) (hm : SessionTrace s made) :
    ∃ more, t.calls = s.calls ++ more ∧ SessionTrace t (made ++ more) := by
  cases hb : inBody s.phase with
  | true => exact h.body_sessionTrace hI hb ((sessionTrace_body hb).1 hm)
  | false =>
  have hinv := hI.phase
  cases h with
  | opened hp' hd ho =>
    refine ⟨[_], rfl, ?_⟩
    obtain hp' | ⟨hp', hv⟩ := hp'
    · simp only [SessionTrace, hp', hd, returned] at hm ⊢
      exact ⟨forall_mem_concat hm.noClose rfl, by simp [isOpened], by simp [hm.opens, isOpenCall]⟩
    · simp only [SessionTrace, hp', returned] at hm ⊢
      exact hm.concat _ rfl fun h1 h2 => absurd (ho.symm.trans (hm.opens h1 h2).2) (by decide)
  | openFailed hp' hd ho hst =>
    simp only [SessionTrace, hp', hd] at hm
    exact ⟨[_], by simp [returned, raiseDriver]; rfl, hm.failed (hI.at_transaction hp).isTransaction (by exact hp')
      (by exact ho) rfl rfl (by simpa [isOpened] using hst)⟩
  | timeoutsSet hp' hd =>
    simp only [SessionTrace, hp', hd] at hm
    exact ⟨[_], rfl, BodyTrace.concat ⟨hm.noClose, hm.opened, hm.opens⟩ rfl rfl⟩
  | timeoutsFailed hp' hd hst =>
    simp only [SessionTrace, hp', hd] at hm
    simp only [phaseInv, hp'] at hinv
    obtain ⟨ht, -, ho, -⟩ := hinv
    have hdue : closeDue s = true := by simp [closeDue, ht.isTransaction, ho, hd]
    refine ⟨[_], by simp [returned, raiseDriver]; rfl, ?_⟩
    rw [raiseDriver, raise_due _ _ _ (by exact hdue)]
    simp only [SessionTrace, enterClose_phase, enterClose_isOpen, recordError_isOpen, returned, ho, hd]
    exact (BodyTrace.concat ⟨hm.noClose, hm.opened, hm.opens⟩ rfl rfl).close _
  | alreadyOpen hp' hd ho =>
    simp only [phaseInv, hp'] at hinv
    obtain ⟨-, -, hopen, -⟩ := hinv
    simp [hd, ho] at hopen
  | reopenFailed hp' hmode hst =>
    simp only [SessionTrace, hp'] at hm
    refine ⟨[_], rfl, hm.concat _ rfl fun h1 h2 => ?_⟩
    obtain hmode | ⟨-, ho⟩ := hmode
    · simp [h2] at hmode
    · exact absurd (ho.symm.trans (hm.opens h1 h2).2) (by decide)
  | reopenTimeouts hp' hmode hd =>
    simp only [SessionTrace, hp'] at hm
    exact ⟨[_], rfl, hm.concat _ rfl fun _ _ => ⟨rfl, rfl⟩⟩
  | reopenSkipped hp' hmode hd ho =>
    simp only [SessionTrace, hp'] at hm
    exact ⟨[], by simp, by simpa [SessionTrace] using hm⟩
  | reopenedAlways hp' hmode =>
    simp only [SessionTrace, hp'] at hm
    exact ⟨[_], rfl, hm.concat _ rfl fun _ h2 => by simp [h2] at hmode⟩
  | closed hp' =>
    simp only [SessionTrace, hp'] at hm
    exact ⟨[_], rfl, hm.closed _ _⟩
  | counted hp' | countFailed hp' => simp [inTransaction, hp'] at hp
  | callFailed hp' => obtain hp' | hp' | hp' := hp' <;> simp [inBody, hp'] at hb
  | _ => simp_all [inTransaction, inSelect, inBody]

/-- Settles O53: `SessionTrace` holds at the issue, and the parts keep it; at rest it is the statement. -/
theorem openAndCloseAreSymmetric : Obligations.OpenAndCloseAreSymmetric := by
  intro s t i hI hp hi h hpt
  rw [exec_transaction hi] at h
  obtain ⟨u, hu, h⟩ := andThen_eq_next h
  have hissued := (issue_next hu).2
  have hIu := hissued.inv hI hp
  have hdue : u.phase = .opening ∧ u.setTimeoutsDue = false := by
    obtain ⟨s1, hl, -, rfl⟩ := hissued.transaction_start hi
    obtain ⟨op, d, r, n, p, rfl⟩ := loaded_eq hl
    exact ⟨rfl, (hI.at_idle hp).2.2.1.due⟩
  have hstart : SessionTrace u [] := by
    simp only [SessionTrace, hdue.1, hdue.2]
    exact ⟨by simp, rfl, rfl⟩
  obtain ⟨hIt, hparams, made, hcalls, hmade⟩ := runWhile_keeps_within
    (P := fun a => Inv a ∧ a.params = s.params ∧ ∃ made, a.calls = s.calls ++ made ∧ SessionTrace a made)
    (fun a b hw ⟨hIa, hpa, made, hcalls, hm⟩ hab => by
      obtain ⟨rfl, -⟩ | hpart := phaseStep_next hab
      · exact ⟨hIa, hpa, made, hcalls, hm⟩
      · obtain ⟨more, hmore, hm⟩ := hpart.sessionTrace hIa hw hm
        exact ⟨hpart.inv hIa, hpart.operandsKept.params.trans hpa, made ++ more,
          by rw [hmore, hcalls, List.append_assoc], hm⟩)
    ⟨hIu, hissued.params, [], by rw [hissued.calls, List.append_nil], hstart⟩ h
  simp only [SessionTrace, hpt, hparams] at hmade
  rw [callsSince_eq hcalls]
  exact ⟨hmade.closes, hmade.last, hmade.opens, (hIt.at_idle hpt).1⟩

end Sys2Proof.Machine
end

section

/-! # Whole transactions (R127, R140 to R143, R155 to R158)

A transaction that opens its session is followed through one exchange, stage by stage: the request built, sent, polled
for, its response received and examined. Where a stage fails, the close sequence ends the transaction (`abort_run`). -/

namespace Sys2Proof.Machine

variable {s u v : State} {i : Instr} {x : Exchange} {index awaited n : Nat} {frame : List Byte}

/-! ## Where a transaction starts -/

theorem exec_loaded (hr : Ready s index) {s1 : State} (hl : loaded i s = some s1) :
    exec i s = runTransaction (beginOperation .opening s1) := by
  cases i with
  | writeRegisters dev reg payload =>
    rw [exec_transaction (.inl rfl), issue_writeRegisters hr.phase hr.configured, hl]
    rfl
  | readRegisters dev reg length =>
    rw [exec_transaction (.inr rfl), issue_readRegisters hr.phase hr.configured, hl]
    rfl
  | transact =>
    obtain ⟨hf, hl⟩ := Option.ite_none_right_eq_some.1 hl
    cases hl
    obtain ⟨frame, hf⟩ := Option.isSome_iff_exists.1 hf
    obtain ⟨body, hb, -⟩ := requestFrame_eq_some.1 hf
    rw [exec, execTransact, transactEntry_issue hr.phase hr.configured hb, andThen_next]
  | _ => cases hl

/-- A transaction about to open its session, for the exchange `x` and the request `frame`. -/
structure Begun (u : State) (x : Exchange) (index : Nat) (frame : List Byte) : Prop where
  phase : u.phase = .opening
  due : u.setTimeoutsDue = false
  closed : u.isOpen = false
  index : u.devIndex = some index
  err : u.err = .none
  written : u.bytesWritten = none
  data : u.rdata = none
  frame : requestFrame u = some frame
  transport : u.transport = x.transport u.params.reopenInClose
  clock : u.clock = x.clock

theorem begun_of_loaded {s1 : State} (hr : Ready s index) (hl : loaded i s = some s1)
    (hf : requestFrame s1 = some frame)
    (ht : s.transport = x.transport s.params.reopenInClose) (hc : s.clock = x.clock) :
    Begun (beginOperation .opening s1) x index frame := by
  obtain ⟨op, d, r, n, p, rfl⟩ := loaded_eq hl
  exact ⟨rfl, hr.due, hr.closed, hr.index, rfl, rfl, rfl, hf, ht, hc⟩

/-! ## Inside the session -/

/-- A transaction between its open and its close: what its close sequence needs. -/
structure InExchange (u : State) (x : Exchange) (index : Nat) (made : List Call) (v : State) : Prop where
  session : SessionOpen v x.handle
  transaction : isTransaction v = true
  index : v.devIndex = some index
  err : v.err = .none
  params : v.params = u.params
  closes : v.transport.closes = x.close :: x.later.closes
  opens : v.transport.opens = x.reopens v.params.reopenInClose ++ x.later.opens
  calls : v.calls = u.calls ++ made

/-- The end of a transaction with an error, after the calls `made` and the close sequence. -/
structure EndsWith (u : State) (x : Exchange) (index : Nat) (e : ErrorCode) (info : Option ErrorInfo) (made : List Call)
    (t : State) : Prop where
  phase : t.phase = .idle
  closed : t.isOpen = false
  handle : t.handle = none
  closeErr : t.closeErr = x.close
  err : t.err = e
  info : t.errInfo = info
  written : t.bytesWritten = none
  data : t.rdata = none
  calls : t.calls = u.calls ++ made ++ x.closing u.params.reopenInClose index

/-- An error inside the session ends the transaction. -/
theorem InExchange.aborts {made : List Call} {e : ErrorCode} {info : Option ErrorInfo} (h : InExchange u x index made v)
    (he : e ≠ .none) (n : Nat) :
    ∃ t, runWhile inTransaction (n + 2) (raise e info v) = .next t ∧ EndsWith u x index e info made t :=
  ⟨_, abort_run rfl rfl rfl n h.session h.transaction h.index h.err he h.closes h.opens,
    ⟨rfl, rfl, rfl, rfl, rfl, rfl, rfl, rfl, by simp [h.calls, h.params]⟩⟩

/-- A call of the body that has returned leaves the exchange where it is. -/
theorem InExchange.concat {made : List Call} {v' : State} (h : InExchange u x index made v) (c : Call)
    (hc : v'.calls = v.calls ++ [c] := by rfl) (ho : v'.isOpen = v.isOpen := by rfl)
    (hh : v'.handle = v.handle := by rfl)
    (hop : v'.op = v.op := by rfl) (hi : v'.devIndex = v.devIndex := by rfl) (he : v'.err = v.err := by rfl)
    (hp : v'.params = v.params := by rfl) (hcl : v'.transport.closes = v.transport.closes := by rfl)
    (hos : v'.transport.opens = v.transport.opens := by rfl) : InExchange u x index (made ++ [c]) v' := by
  have ht : isTransaction v' = isTransaction v := by unfold isTransaction; rw [hop]
  exact ⟨⟨ho.trans h.session.session, hh.trans h.session.handle⟩, ht.trans h.transaction, hi.trans h.index,
    he.trans h.err, hp.trans h.params, hcl.trans h.closes, by rw [hos, hp, h.opens],
    by rw [hc, h.calls, List.append_assoc]⟩

theorem InExchange.goTo {made : List Call} (h : InExchange u x index made v) (p : Phase) :
    InExchange u x index made (goTo p v) :=
  ⟨⟨h.session.session, h.session.handle⟩, h.transaction, h.index, h.err, h.params, h.closes, h.opens, h.calls⟩

/-! ## The request -/

/-- The calls that open the session. -/
def Exchange.opened (x : Exchange) (p : Params) (index : Nat) : List Call :=
  [.openDevice index 0 x.handle, .setTimeouts x.handle p.readTimeoutMs p.writeTimeoutMs 0]

/-- The session open and the request in `TXBUF`. -/
def requestBuilt (u : State) (x : Exchange) (index : Nat) (frame : List Byte) : State :=
  { u with
    phase := .flushing, isOpen := true, handle := some x.handle, txbuf := some frame,
    checksum := some (sum8 frame.dropLast),
    transport := { u.transport with
      opens := x.reopens u.params.reopenInClose ++ x.later.opens, timeouts := x.later.timeouts },
    calls := u.calls ++ x.opened u.params index }

theorem Begun.builds (h : Begun u x index frame) (n : Nat) :
    runWhile inTransaction (n + 3) u = runWhile inTransaction n (requestBuilt u x index frame) :=
  (open_run (w := inTransaction) (h := x.handle) rfl (n + 1) h.phase h.due h.closed h.index
    (by rw [h.transport]; rfl) (by rw [h.transport]; rfl)).trans
    (runWhile_step (fuel := n) rfl (buildCall_loads rfl h.frame))

theorem Begun.inExchange_built (h : Begun u x index frame) :
    InExchange u x index (x.opened u.params index) (requestBuilt u x index frame) := by
  obtain ⟨body, hb, -⟩ := requestFrame_eq_some.1 h.frame
  exact ⟨⟨rfl, rfl⟩, isTransaction_of_requestBody hb, h.index, h.err, rfl,
    congrArg Transport.closes h.transport, rfl, rfl⟩

/-- The buffers flushed. -/
def requestFlushed (u : State) (x : Exchange) (index : Nat) (frame : List Byte) : State :=
  { requestBuilt u x index frame with
    phase := .transmitting,
    transport := { (requestBuilt u x index frame).transport with flushes := x.later.flushes },
    calls := u.calls ++ (x.opened u.params index ++ [.flushBuffers x.handle 0]) }

theorem Begun.flushes (h : Begun u x index frame) (hf : x.flush = 0) (n : Nat) :
    runWhile inTransaction (n + 4) u = runWhile inTransaction n (requestFlushed u x index frame) := by
  have hstep := flushCall_returns (s := requestBuilt u x index frame) (h := x.handle) rfl ⟨rfl, rfl⟩
    (congrArg Transport.flushes h.transport)
  rw [h.builds (n + 1), runWhile_step (fuel := n) rfl hstep, if_neg (not_not.2 hf), hf]
  simp only [requestFlushed, requestBuilt, goTo, List.append_assoc]

theorem Begun.flushFails (h : Begun u x index frame) (hf : x.flush ≠ 0) :
    ∃ t, runTransaction u = .next t ∧
      EndsWith u x index .driverError (some (.status x.flush))
        (x.opened u.params index ++ [.flushBuffers x.handle x.flush]) t := by
  have hstep := flushCall_returns (s := requestBuilt u x index frame) (h := x.handle) rfl ⟨rfl, rfl⟩
    (congrArg Transport.flushes h.transport)
  rw [runTransaction, show transactionParts = 304 + 2 + 1 + 3 from rfl, h.builds, runWhile_step rfl hstep, if_pos hf]
  exact (h.inExchange_built.concat (.flushBuffers x.handle x.flush)).aborts (by decide) _

theorem Begun.inExchange_flushed (h : Begun u x index frame) :
    InExchange u x index (x.opened u.params index ++ [.flushBuffers x.handle 0]) (requestFlushed u x index frame) :=
  h.inExchange_built.concat _ (List.append_assoc _ _ _).symm

theorem Begun.transmits (h : Begun u x index frame) (hf : x.flush = 0) (n : Nat) :
    let s1 := { requestFlushed u x index frame with
      transport := { (requestFlushed u x index frame).transport with writes := x.later.writes },
      calls := (requestFlushed u x index frame).calls ++ [.write x.handle frame x.write.1 x.write.2] }
    runWhile inTransaction (n + 5) u = runWhile inTransaction n
      (if x.write.1 ≠ 0 then raiseDriver x.write.1 s1
        else if x.write.2 ≠ frame.length then raiseIo .transmit frame.length x.write.2 s1
        else transmitted x.write.2 s1) :=
  (h.flushes hf (n + 1)).trans (runWhile_step (fuel := n) rfl
    (transmitCall_returns (s := requestFlushed u x index frame) (h := x.handle) (st := x.write.1) (n := x.write.2) rfl
      ⟨rfl, rfl⟩ rfl (congrArg Transport.writes h.transport)))

theorem Begun.writeFails (h : Begun u x index frame) (hf : x.flush = 0) (hw : x.write.1 ≠ 0) :
    ∃ t, runTransaction u = .next t ∧
      EndsWith u x index .driverError (some (.status x.write.1))
        (x.opened u.params index ++ [.flushBuffers x.handle 0] ++ [.write x.handle frame x.write.1 x.write.2]) t := by
  rw [runTransaction, show transactionParts = 303 + 2 + 5 from rfl, h.transmits hf, if_pos hw]
  exact (h.inExchange_flushed.concat (.write x.handle frame x.write.1 x.write.2)).aborts (by decide) _

theorem Begun.writeCountFails (h : Begun u x index frame) (hf : x.flush = 0) (hw : x.write.1 = 0)
    (hn : x.write.2 ≠ frame.length) :
    ∃ t, runTransaction u = .next t ∧
      EndsWith u x index .ioError (some (.counts .transmit frame.length x.write.2))
        (x.opened u.params index ++ [.flushBuffers x.handle 0] ++ [.write x.handle frame x.write.1 x.write.2]) t := by
  rw [runTransaction, show transactionParts = 303 + 2 + 5 from rfl, h.transmits hf, if_neg (not_not.2 hw), if_pos hn]
  exact (h.inExchange_flushed.concat (.write x.handle frame x.write.1 x.write.2)).aborts (by decide) _

/-! ## The polls -/

/-- The request sent: polling begins. -/
def requestSent (u : State) (x : Exchange) (index : Nat) (frame : List Byte) : State :=
  { requestFlushed u x index frame with
    phase := .polling, writeCount := some frame.length, txbuf := none, pollCnt := some 0, qstatus := none,
    transport := { (requestFlushed u x index frame).transport with writes := x.later.writes },
    calls := u.calls ++ x.opening u.params index frame }

theorem Begun.inExchange_sent (h : Begun u x index frame) :
    InExchange u x index (x.opening u.params index frame) (requestSent u x index frame) :=
  h.inExchange_flushed.concat (.write x.handle frame 0 frame.length)
    (by simp [requestSent, requestFlushed, Exchange.opening, Exchange.opened])

/-- The exchange with the block about to poll for the `c`-th time. -/
theorem Begun.inExchange_polling (h : Begun u x index frame) (c k : Nat) (q : List PollAnswer) (made : List Call) :
    InExchange u x index made (pollingAt (requestSent u x index frame) c k q (u.calls ++ made)) := by
  have hs := h.inExchange_sent
  exact ⟨⟨rfl, rfl⟩, hs.transaction, hs.index, hs.err, rfl, hs.closes, hs.opens, rfl⟩

theorem Begun.sends (h : Begun u x index frame) (hf : x.flush = 0) (hw : x.write = (0, frame.length)) (n : Nat) :
    runWhile inTransaction (n + 5) u = runWhile inTransaction n
      (pollingAt (requestSent u x index frame) 0 x.clock (x.pending ++ x.last :: x.later.queueStatus)
        (u.calls ++ x.opening u.params index frame)) := by
  have hq : u.transport.queueStatus = x.pending ++ x.last :: x.later.queueStatus :=
    congrArg Transport.queueStatus h.transport
  have hcalls : (requestFlushed u x index frame).calls ++ [.write x.handle frame 0 frame.length] =
      u.calls ++ x.opening u.params index frame := by
    simp [requestFlushed, Exchange.opening, Exchange.opened]
  rw [h.transmits hf, hw, if_neg (not_not.2 rfl), if_neg (not_not.2 rfl), ← hq, ← h.clock, hcalls]
  rfl

/-- What the block has called when the last poll is due. -/
def Exchange.polled (x : Exchange) (p : Params) (index : Nat) (frame : List Byte) : List Call :=
  x.opening p index frame ++ pollCalls x.handle x.pending

/-- The polls before the last one. -/
theorem Begun.polls (h : Begun u x index frame) (hf : x.flush = 0) (hw : x.write = (0, frame.length))
    (hp : x.pending.all notReady = true) (hlt : x.pending.length < 100) (n : Nat) :
    runWhile inTransaction (n + 3 * x.pending.length + 5) u = runWhile inTransaction n
      (pollingAt (requestSent u x index frame) x.pending.length ((if notReady x.last then 1 else 0) + x.laterClock)
        (x.last :: x.later.queueStatus) (u.calls ++ x.polled u.params index frame)) := by
  have hclock : x.clock = x.pending.length + ((if notReady x.last then 1 else 0) + x.laterClock) := Nat.add_assoc _ _ _
  rw [h.sends hf hw, hclock, poll_many rfl ⟨rfl, rfl⟩ rfl _ _ _ _ _ _ hp (by omega), Nat.zero_add, List.append_assoc]
  rfl

theorem Begun.runTransaction_polls (h : Begun u x index frame) (hf : x.flush = 0) (hw : x.write = (0, frame.length))
    (hp : x.pending.all notReady = true) (hlt : x.pending.length < 100) :
    ∃ n, runTransaction u = runWhile inTransaction (n + 6)
      (pollingAt (requestSent u x index frame) x.pending.length ((if notReady x.last then 1 else 0) + x.laterClock)
        (x.last :: x.later.queueStatus) (u.calls ++ x.polled u.params index frame)) := by
  refine ⟨299 - 3 * x.pending.length, ?_⟩
  have hfuel : transactionParts = 299 - 3 * x.pending.length + 6 + 3 * x.pending.length + 5 := by
    have h310 : transactionParts = 310 := rfl
    omega
  rw [runTransaction, hfuel, h.polls hf hw hp hlt]

theorem Begun.pollFails (h : Begun u x index frame) (hf : x.flush = 0) (hw : x.write = (0, frame.length))
    (hp : x.pending.all notReady = true) (hlt : x.pending.length < 100) (hst : x.last.1 ≠ 0) :
    ∃ t, runTransaction u = .next t ∧
      EndsWith u x index .driverError (some (.status x.last.1))
        (x.polled u.params index frame ++ [.checkQueueStatus x.handle x.last.1 x.last.2.1 x.last.2.2]) t := by
  obtain ⟨n, hrun⟩ := h.runTransaction_polls hf hw hp hlt
  rw [hrun, poll_error (n := n + 5) (h := x.handle) rfl ⟨rfl, rfl⟩ _ _ _ hst, raiseDriver]
  exact ((h.inExchange_polling x.pending.length 0 x.later.queueStatus _).concat _).aborts (by decide) _

theorem Begun.timesOut (h : Begun u x index frame) (hf : x.flush = 0) (hw : x.write = (0, frame.length))
    (hp : x.pending.all notReady = true) (hlen : x.pending.length = 99) (hlast : notReady x.last = true) :
    ∃ t, runTransaction u = .next t ∧
      EndsWith u x index .timeoutError none
        (x.opening u.params index frame ++ pollCalls x.handle (x.pending ++ [x.last])) t := by
  obtain ⟨n, hrun⟩ := h.runTransaction_polls hf hw hp (by omega)
  have hcalls : x.opening u.params index frame ++ pollCalls x.handle (x.pending ++ [x.last]) =
      x.polled u.params index frame ++
        [.checkQueueStatus x.handle x.last.1 x.last.2.1 x.last.2.2, .sleepMs Config.pollIntervalMs] := by
    rw [pollCalls_append, ← List.append_assoc]
    rfl
  rw [hrun, hlen, if_pos hlast, Nat.add_comm 1, poll_last (n := n + 3) (h := x.handle) rfl ⟨rfl, rfl⟩ rfl _ _ _ _ hlast,
    hcalls, List.append_assoc]
  exact ((h.inExchange_polling 100 x.laterClock x.later.queueStatus _).goTo .waiting).aborts (by decide) (n + 1)

/-! ## The response -/

/-- The calls up to the poll that is ready. -/
def Exchange.readied (x : Exchange) (p : Params) (index : Nat) (frame : List Byte) : List Call :=
  x.polled p index frame ++ [.checkQueueStatus x.handle 0 x.last.2.1 Config.readyCode]

theorem Exchange.calls_eq (x : Exchange) (p : Params) (index : Nat) (frame : List Byte) :
    x.calls p index frame =
      x.readied p index frame ++ [.read x.handle x.read.2.length 0 x.read.2] ++ x.closing p.reopenInClose index := by
  simp [Exchange.calls, Exchange.readied, Exchange.polled]

/-- The response reported ready. -/
def responseReady (u : State) (x : Exchange) (index : Nat) (frame : List Byte) : State :=
  goTo .receiving (pollingAt (requestSent u x index frame) (x.pending.length + 1) x.laterClock x.later.queueStatus
    (u.calls ++ x.readied u.params index frame))

theorem Begun.readies (h : Begun u x index frame) (hf : x.flush = 0) (hw : x.write = (0, frame.length))
    (hp : x.pending.all notReady = true) (hlt : x.pending.length < 100) (hst : x.last.1 = 0)
    (hcode : x.last.2.2 = Config.readyCode) :
    ∃ n, runTransaction u = runWhile inTransaction (n + 4) (responseReady u x index frame) := by
  obtain ⟨n, hrun⟩ := h.runTransaction_polls hf hw hp hlt
  have hlast : x.last = (0, x.last.2.1, 2) := Prod.ext hst (Prod.ext rfl hcode)
  have hready : notReady x.last = false := by simp [notReady, hcode, isReady]
  refine ⟨n, ?_⟩
  rw [hrun, hready, hlast, poll_ready (n := n + 4) (h := x.handle) rfl ⟨rfl, rfl⟩, List.append_assoc]
  simp only [Bool.false_eq_true, if_false, Nat.zero_add]
  rfl

theorem Begun.inExchange_ready (h : Begun u x index frame) :
    InExchange u x index (x.readied u.params index frame) (responseReady u x index frame) :=
   (h.inExchange_polling _ _ _ _).goTo .receiving

/-- The transport's answers to an exchange whose request went out, as far as the response asks for. -/
structure Exchange.Readies (x : Exchange) (frame : List Byte) : Prop where
  flush : x.flush = 0
  write : x.write = (0, frame.length)
  pending : x.pending.all notReady = true
  few : x.pending.length < 100
  status : x.last.1 = 0
  ready : x.last.2.2 = Config.readyCode

theorem responsePayload_of_length (h : responseLength u = some awaited) :
    ∃ k, responsePayload u = .ok k ∧ awaited = 9 + k := by
  unfold responseLength at h
  split at h
  next ho => cases h; exact ⟨0, by simp [responsePayload, ho], rfl⟩
  next ho =>
    obtain ⟨k, hk, rfl⟩ := Option.map_eq_some_iff.1 h
    exact ⟨k.toNat, by simp [responsePayload, ho, hk], rfl⟩
  · cases h

/-- The response received. -/
def responseReceived (u : State) (x : Exchange) (index : Nat) (frame : List Byte) (awaited : Nat) : State :=
  { responseReady u x index frame with
    phase := .checking, rxbuf := some x.read.2,
    transport := { (responseReady u x index frame).transport with reads := x.later.reads },
    calls := (responseReady u x index frame).calls ++ [.read x.handle awaited 0 x.read.2] }

theorem Begun.receives (h : Begun u x index frame) (hx : x.Readies frame) (ha : responseLength u = some awaited) :
    let s1 := { responseReady u x index frame with
      transport := { (responseReady u x index frame).transport with reads := x.later.reads },
      calls := (responseReady u x index frame).calls ++ [.read x.handle awaited x.read.1 x.read.2] }
    ∃ n, runTransaction u = runWhile inTransaction (n + 3)
      (if x.read.1 ≠ 0 then raiseDriver x.read.1 s1
        else if x.read.2.length ≠ awaited then raiseIo .receive awaited x.read.2.length s1
        else { s1 with rxbuf := some x.read.2, phase := .checking }) := by
  obtain ⟨n, hrun⟩ := h.readies hx.flush hx.write hx.pending hx.few hx.status hx.ready
  obtain ⟨k, hk, rfl⟩ := responsePayload_of_length ha
  exact ⟨n, hrun.trans (runWhile_step (fuel := n + 3) rfl
    (receiveCall_returns (s := responseReady u x index frame) (h := x.handle) (st := x.read.1) (bytes := x.read.2) rfl
      ⟨rfl, rfl⟩ hk (congrArg Transport.reads h.transport)))⟩

theorem Begun.readFails (h : Begun u x index frame) (hx : x.Readies frame) (ha : responseLength u = some awaited)
    (hr : x.read.1 ≠ 0) :
    ∃ t, runTransaction u = .next t ∧ EndsWith u x index .driverError (some (.status x.read.1))
      (x.readied u.params index frame ++ [.read x.handle awaited x.read.1 x.read.2]) t := by
  obtain ⟨n, hrun⟩ := h.receives hx ha
  rw [hrun, if_pos hr]
  exact (h.inExchange_ready.concat (.read x.handle awaited x.read.1 x.read.2)).aborts (by decide) (n + 1)

theorem Begun.readCountFails (h : Begun u x index frame) (hx : x.Readies frame) (ha : responseLength u = some awaited)
    (hr : x.read.1 = 0) (hl : x.read.2.length ≠ awaited) :
    ∃ t, runTransaction u = .next t ∧ EndsWith u x index .ioError (some (.counts .receive awaited x.read.2.length))
      (x.readied u.params index frame ++ [.read x.handle awaited x.read.1 x.read.2]) t := by
  obtain ⟨n, hrun⟩ := h.receives hx ha
  rw [hrun, if_neg (not_not.2 hr), if_pos hl]
  exact (h.inExchange_ready.concat (.read x.handle awaited x.read.1 x.read.2)).aborts (by decide) (n + 1)

theorem Begun.received (h : Begun u x index frame) (hx : x.Readies frame) (ha : responseLength u = some awaited)
    (hr : x.read.1 = 0) (hl : x.read.2.length = awaited) :
    ∃ n, runTransaction u = runWhile inTransaction (n + 3) (responseReceived u x index frame awaited) := by
  obtain ⟨n, hrun⟩ := h.receives hx ha
  rw [if_neg (not_not.2 hr), if_neg (not_not.2 hl), hr] at hrun
  exact ⟨n, hrun⟩

theorem Begun.inExchange_received (h : Begun u x index frame) (awaited : Nat) :
    InExchange u x index (x.readied u.params index frame ++ [.read x.handle awaited 0 x.read.2])
      (responseReceived u x index frame awaited) :=
  h.inExchange_ready.concat (.read x.handle awaited 0 x.read.2)

theorem Begun.ackFails {b : Byte} (h : Begun u x index frame) (hx : x.Readies frame)
    (ha : responseLength u = some awaited) (hr : x.read.1 = 0) (hl : x.read.2.length = awaited)
    (h7 : x.read.2[7]? = some b) (hb : b ≠ Config.ack) :
    ∃ t, runTransaction u = .next t ∧ EndsWith u x index .protocolError (some (.ackCheckFailed b))
      (x.readied u.params index frame ++ [.read x.handle awaited 0 x.read.2]) t := by
  obtain ⟨n, hrun⟩ := h.received hx ha hr hl
  have hstep := checkCall_badAck (s := responseReceived u x index frame awaited) rfl h7 hb
  rw [hrun, runWhile_step (fuel := n + 2) rfl ((phaseStep_checking rfl).trans hstep)]
  exact (h.inExchange_received awaited).aborts (by decide) n

/-! ## The end without an error -/

/-- `BYTES_WRITTEN` of a transaction (R142). -/
def writtenResult (op : Option HostOp) (frame : List Byte) : Option Nat :=
  if op = some .writeRegisters then some frame.length else none

/-- `RDATA` of a transaction (R157). -/
def dataResult (op : Option HostOp) (bytes : List Byte) (awaited : Nat) : Option (List Byte) :=
  if op = some .readRegisters then some ((bytes.drop 8).take (awaited - 9)) else none

/-- The response taken: its result is the operation's own. -/
theorem Begun.takes (h : Begun u x index frame) (ha : responseLength u = some awaited) (hl : x.read.2.length = awaited)
    (h7 : x.read.2[7]? = some Config.ack) :
    checkCall (responseReceived u x index frame awaited) = .next (responseTaken
      { responseReceived u x index frame awaited with
        bytesWritten := writtenResult u.op frame, rdata := dataResult u.op x.read.2 awaited }) := by
  obtain ⟨k, hk, rfl⟩ := responsePayload_of_length ha
  obtain ⟨ho, rfl⟩ | ⟨m, ho, hm, rfl⟩ := responsePayload_ok hk
  · rw [checkCall_write (s := responseReceived u x index frame _) rfl ho rfl hl (n := frame.length) rfl h7]
    simp [writtenResult, dataResult, ho, responseReceived, responseReady, goTo, pollingAt, requestSent, requestFlushed,
      requestBuilt, h.data]
  · rw [checkCall_read (s := responseReceived u x index frame _) rfl ho rfl hm hl h7]
    simp [writtenResult, dataResult, ho, responseReceived, responseReady, goTo, pollingAt, requestSent, requestFlushed,
      requestBuilt, h.written]

/-- An acknowledged exchange, whatever its close answers (R127). -/
theorem Begun.completes (h : Begun u x index frame) (hx : x.Readies frame) (ha : responseLength u = some awaited)
    (hr : x.read.1 = 0) (hl : x.read.2.length = awaited) (h7 : x.read.2[7]? = some Config.ack) :
    runTransaction u = .next (goIdle { u with
      isOpen := false, handle := none, closeErr := x.close,
      err := if x.close ≠ 0 then .driverError else .none,
      errInfo := if x.close ≠ 0 then some (.status x.close) else u.errInfo,
      bytesWritten := if x.close ≠ 0 then none else writtenResult u.op frame,
      rdata := if x.close ≠ 0 then none else dataResult u.op x.read.2 awaited,
      transport := x.later, clock := x.laterClock,
      calls := u.calls ++ x.calls u.params index frame }) := by
  obtain ⟨n, hrun⟩ := h.received hx ha hr hl
  have hs := h.inExchange_received awaited
  rw [hrun, runWhile_step (fuel := n + 2) rfl ((phaseStep_checking rfl).trans (h.takes ha hl h7))]
  refine Eq.trans (closeSequence_run (x := x) (index := index) (os := x.later.opens) (cs := x.later.closes) rfl rfl rfl
    n rfl ⟨rfl, rfl⟩ (by exact h.due) (by exact h.index) (by exact hs.closes) (by exact hs.opens)) ?_
  have hcounts : u.transport.counts = x.later.counts := by rw [h.transport]; rfl
  have hdescriptors : u.transport.descriptors = x.later.descriptors := by rw [h.transport]; rfl
  have hcalls : u.calls ++ x.calls u.params index frame =
      (responseReceived u x index frame awaited).calls ++ x.closing u.params.reopenInClose index := by
    rw [hs.calls, Exchange.calls_eq, hl, ← List.append_assoc]
  rw [hcalls]
  simp [goIdle, responseTaken, responseReceived, responseReady, goTo, pollingAt, requestSent, requestFlushed,
    requestBuilt, h.err, hcounts, hdescriptors]

/-! ## The traces -/

theorem pollCalls_countP {p : Call → Bool} {h : Handle} (poll sleep : Bool)
    (hpoll : ∀ st av code, p (.checkQueueStatus h st av code) = poll) (hsleep : ∀ ms, p (.sleepMs ms) = sleep)
    (q : List PollAnswer) : (pollCalls h q).countP p = q.length * (poll.toNat + sleep.toNat) := by
  induction q with
  | nil => simp [pollCalls]
  | cons a q ih =>
    simp only [pollCalls, List.countP_cons, ih, hpoll, hsleep, List.length_cons, Nat.succ_mul]
    cases poll <;> cases sleep <;> simp

theorem pollCalls_noClose (h : Handle) (q : List PollAnswer) : (pollCalls h q).countP isCloseCall = 0 :=
  pollCalls_countP false false (fun _ _ _ => rfl) (fun _ => rfl) q

theorem polled_noClose (p : Params) : (x.polled p index frame).countP isCloseCall = 0 := by
  rw [Exchange.polled, List.countP_append, pollCalls_noClose]
  rfl

theorem readied_noClose (p : Params) : (x.readied p index frame).countP isCloseCall = 0 := by
  rw [Exchange.readied, List.countP_append, polled_noClose]
  rfl

/-- The close sequence of an open session: one close, no poll, no sleep, no read (R126). -/
theorem closing_countP (x : Exchange) (mode : ReopenMode) (index : Nat) :
    (x.closing mode index).countP isCloseCall = 1 ∧ (x.closing mode index).countP isPoll = 0 ∧
      (x.closing mode index).countP isSleep = 0 ∧ (x.closing mode index).countP isRead = 0 := by
  cases mode <;> exact ⟨rfl, rfl, rfl, rfl⟩

/-! ## The outcomes -/

/-- Settles O42: `Begun.timesOut`, and the calls counted. -/
theorem transactionTimesOut : Obligations.TransactionTimesOut := by
  intro i s s1 index frame x hr hl hf ht hc hflush hwrite hp hlen hlast
  obtain ⟨t, hrun, hend⟩ := (begun_of_loaded hr hl hf ht hc).timesOut hflush hwrite hp hlen hlast
  obtain ⟨op, d, r, n, p, rfl⟩ := loaded_eq hl
  have hcalls : t.calls = s.calls ++ (x.opening s.params index frame ++ pollCalls x.handle (x.pending ++ [x.last]) ++
      x.closing s.params.reopenInClose index) := hend.calls.trans (List.append_assoc _ _ _)
  obtain ⟨-, hpoll, hsleep, hread⟩ := closing_countP x s.params.reopenInClose index
  refine ⟨t, (exec_loaded hr hl).trans hrun, hend.err, hend.info, hend.closeErr, hend.phase, hend.closed, hend.written,
    hend.data, ?_⟩
  rw [callsSince_eq hcalls]
  refine ⟨rfl, ?_, ?_, ?_⟩ <;> rw [List.countP_append, List.countP_append]
  · rw [hpoll, pollCalls_countP true false (fun _ _ _ => rfl) (fun _ => rfl), List.length_append, hlen]
    rfl
  · rw [hsleep, pollCalls_countP false true (fun _ _ _ => rfl) (fun _ => rfl), List.length_append, hlen]
    rfl
  · rw [hread, pollCalls_countP false false (fun _ _ _ => rfl) (fun _ => rfl)]
    rfl

theorem Exchange.succeeds.readies {w : Nat} (h : x.succeeds w awaited) (hw : w = frame.length) : x.Readies frame := by
  obtain ⟨hflush, hwrite, hp, hlt, hst, hcode, -⟩ := h
  exact ⟨hflush, hw ▸ hwrite, hp, hlt, hst, hcode⟩

/-- An exchange in which every call succeeds (R140, R155, R127). -/
theorem exec_succeeds {s1 : State} (hr : Ready s index) (hl : loaded i s = some s1) (hf : requestFrame s1 = some frame)
    (ha : responseLength s1 = some awaited) (ht : s.transport = x.transport s.params.reopenInClose)
    (hc : s.clock = x.clock) (hx : x.succeeds frame.length awaited) :
    exec i s = .next (goIdle { s1 with
      err := .none, errInfo := none, closeErr := 0, bytesWritten := writtenResult s1.op frame,
      rdata := dataResult s1.op x.read.2 awaited, isOpen := false, handle := none, transport := x.later,
      clock := x.laterClock, calls := s1.calls ++ x.calls s1.params index frame }) := by
  have hready := hx.readies rfl
  obtain ⟨-, -, -, -, -, -, hr1, hlen, h7, hclose⟩ := hx
  rw [exec_loaded hr hl, (begun_of_loaded hr hl hf ht hc).completes hready ha hr1 hlen h7, hclose]
  rfl

theorem loaded_writeRegisters {dev reg : Int} {payload : List Int} {d r : Byte} {p : List Byte}
    (h : writeOperands s.params dev reg payload = some (d, r, p)) :
    loaded (.writeRegisters dev reg payload) s =
      some { s with op := some .writeRegisters, devAddr := some d, regAddr := some r, payload := some p } := by
  rw [loaded, h]
  rfl

theorem loaded_readRegisters {dev reg length : Int} {d r : Byte} {n : Half}
    (h : readOperands dev reg length = some (d, r, n)) :
    loaded (.readRegisters dev reg length) s =
      some { s with op := some .readRegisters, devAddr := some d, regAddr := some r, length := some n } := by
  rw [loaded, h]
  rfl

/-- Settles O38: `exec_succeeds` for a write. -/
theorem writeTransactionCompletes : Obligations.WriteTransactionCompletes := by
  intro s index dev reg payload d r p x hr ho ht hc hx
  obtain ⟨-, -, -, hfits⟩ := writeOperands_some.1 ho
  have hf : requestFrame
      { s with op := some .writeRegisters, devAddr := some d, regAddr := some r, payload := some p } =
      some (buildW d r p) := by
    rw [requestFrame, requestBody_write rfl rfl rfl rfl, if_pos hfits]
    rfl
  rw [← buildW_length d r p] at hx ⊢
  exact exec_succeeds hr (loaded_writeRegisters ho) hf rfl ht hc hx

/-- Settles O39: `exec_succeeds` for a read. -/
theorem readTransactionCompletes : Obligations.ReadTransactionCompletes := by
  intro s index dev reg length d r n x hr ho ht hc hx
  rw [← buildR_length d r n] at hx
  rw [exec_succeeds hr (loaded_readRegisters ho) (frame := buildR d r n) rfl rfl ht hc hx, dataResult, if_pos rfl,
    Config.respOverhead,
    Nat.add_sub_cancel_left]
  rfl

/-- Settles O40: `exec_succeeds` for the loaded operands. -/
theorem transactWrapsTheBody : Obligations.TransactWrapsTheBody := by
  intro s index frame x awaited hr hf ha ht hc hx
  have hl : loaded .transact s = some s := by simp [loaded, hf]
  refine ⟨_, exec_succeeds hr hl hf ha ht hc hx, rfl, rfl, rfl, rfl, rfl, fun ho => ?_, fun ho => ?_, rfl, rfl,
    rfl, rfl, rfl, rfl, rfl, rfl, rfl, rfl, rfl, rfl⟩
  · simp [writtenResult, dataResult, ho]
  · simp [writtenResult, dataResult, ho]

/-- An error of the body is the outcome, whatever its close answers. -/
theorem EndsWith.isOutcome {e : ErrorCode} {info : Option ErrorInfo} {made : List Call} {t : State} {w : Nat}
    (h : EndsWith u x index e info made t) (hcalls : u.calls = s.calls) (he : e ≠ .none)
    (hbody : x.bodyError w awaited = (e, info)) (hmade : made.countP isCloseCall = 0) :
    t.phase = .idle ∧ t.isOpen = false ∧ t.handle = none ∧ t.closeErr = x.close ∧
      (t.err, t.errInfo) =
        (if (x.bodyError w awaited).1 ≠ .none then x.bodyError w awaited
         else if x.close ≠ 0 then (.driverError, some (.status x.close)) else (.none, none)) ∧
      (t.err ≠ .none → t.bytesWritten = none ∧ t.rdata = none) ∧
      (callsSince s t).countP isCloseCall = 1 := by
  refine ⟨h.phase, h.closed, h.handle, h.closeErr, ?_, fun _ => ⟨h.written, h.data⟩, ?_⟩
  · rw [hbody, if_pos he, h.err, h.info]
  · have hsince : t.calls = s.calls ++ (made ++ x.closing u.params.reopenInClose index) := by
      rw [h.calls, hcalls, List.append_assoc]
    rw [callsSince_eq hsince, List.countP_append, hmade, (closing_countP x u.params.reopenInClose index).1]

/-- Settles O41: the first failing stage of the exchange ends it with its error; without one, the close does. -/
theorem firstErrorIsTheOutcome : Obligations.FirstErrorIsTheOutcome := by
  intro i s s1 index frame awaited x hr hl hf ha ht hc ⟨hp, hlt, hlast⟩
  have h := begun_of_loaded hr hl hf ht hc
  have hcalls : (beginOperation .opening s1).calls = s.calls := by
    obtain ⟨op, d, r, n, p, rfl⟩ := loaded_eq hl
    rfl
  rw [exec_loaded hr hl]
  by_cases hflush : x.flush = 0
  case neg =>
    obtain ⟨t, hrun, hend⟩ := h.flushFails hflush
    exact ⟨t, hrun, hend.isOutcome hcalls (by decide) (by simp [Exchange.bodyError, hflush]) rfl⟩
  by_cases hwrite : x.write.1 = 0
  case neg =>
    obtain ⟨t, hrun, hend⟩ := h.writeFails hflush hwrite
    exact ⟨t, hrun, hend.isOutcome hcalls (by decide) (by simp [Exchange.bodyError, hflush, hwrite]) rfl⟩
  by_cases hcount : x.write.2 = frame.length
  case neg =>
    obtain ⟨t, hrun, hend⟩ := h.writeCountFails hflush hwrite hcount
    exact ⟨t, hrun, hend.isOutcome hcalls (by decide) (by simp [Exchange.bodyError, hflush, hwrite, hcount]) rfl⟩
  have hsent : x.write = (0, frame.length) := Prod.ext hwrite hcount
  by_cases hst : x.last.1 = 0
  case neg =>
    obtain ⟨t, hrun, hend⟩ := h.pollFails hflush hsent hp hlt hst
    refine ⟨t, hrun, hend.isOutcome hcalls (by decide) (by simp [Exchange.bodyError, hflush, hwrite, hcount, hst]) ?_⟩
    rw [List.countP_append, polled_noClose]
    rfl
  cases hready : isReady x.last.2.2 with
  | false =>
    have hnot : notReady x.last = true := (notReady_iff _).2 ⟨hst, hready⟩
    have hlen : x.pending.length = 99 := Nat.succ_injective (hlast hnot)
    obtain ⟨t, hrun, hend⟩ := h.timesOut hflush hsent hp hlen hnot
    refine ⟨t, hrun, hend.isOutcome hcalls (by decide)
      (by simp [Exchange.bodyError, hflush, hwrite, hcount, hst, hready]) ?_⟩
    rw [List.countP_append, pollCalls_noClose]
    rfl
  | true =>
  have hx : x.Readies frame := ⟨hflush, hsent, hp, hlt, hst, by simpa [isReady] using hready⟩
  have hread (c : Call) (hc : isCloseCall c = false) :
      (x.readied (beginOperation .opening s1).params index frame ++ [c]).countP isCloseCall = 0 := by
    rw [List.countP_append, readied_noClose, List.countP_singleton, hc]
    rfl
  by_cases hr1 : x.read.1 = 0
  case neg =>
    obtain ⟨t, hrun, hend⟩ := h.readFails hx ha hr1
    exact ⟨t, hrun, hend.isOutcome hcalls (by decide)
      (by simp [Exchange.bodyError, hflush, hwrite, hcount, hst, hready, hr1]) (hread _ rfl)⟩
  by_cases hlen : x.read.2.length = awaited
  case neg =>
    obtain ⟨t, hrun, hend⟩ := h.readCountFails hx ha hr1 hlen
    exact ⟨t, hrun, hend.isOutcome hcalls (by decide)
      (by simp [Exchange.bodyError, hflush, hwrite, hcount, hst, hready, hr1, hlen]) (hread _ rfl)⟩
  obtain ⟨b, h7⟩ : ∃ b, x.read.2[7]? = some b := by
    obtain ⟨k, -, rfl⟩ := responsePayload_of_length ha
    exact ⟨x.read.2[7]'(by omega), List.getElem?_eq_getElem _⟩
  by_cases hb : b = Config.ack
  case neg =>
    obtain ⟨t, hrun, hend⟩ := h.ackFails hx ha hr1 hlen h7 hb
    exact ⟨t, hrun, hend.isOutcome hcalls (by decide)
      (by simp [Exchange.bodyError, hflush, hwrite, hcount, hst, hready, hr1, hlen, Config.ackOffset, h7, ackOk, hb])
      (hread _ rfl)⟩
  subst hb
  have hbody : x.bodyError frame.length awaited = (.none, none) := by
    simp [Exchange.bodyError, hflush, hwrite, hcount, hst, hready, hr1, hlen, Config.ackOffset, h7, ackOk]
  refine ⟨_, h.completes hx ha hr1 hlen h7, rfl, rfl, rfl, rfl, ?_, ?_, ?_⟩
  · rw [hbody]
    by_cases hclose : x.close = 0 <;> simp [hclose, beginOperation]
  · by_cases hclose : x.close = 0 <;> simp [hclose]
  · rw [callsSince_eq (made := x.calls (beginOperation .opening s1).params index frame) (by rw [← hcalls]; rfl),
      Exchange.calls_eq, List.countP_append, hread _ rfl, (closing_countP x _ index).1]

end Sys2Proof.Machine
end

section

/-! # The session that does not open (R125 to R127, rows 1 and 2 of R143 and R158) -/

namespace Sys2Proof.Machine

variable {s s1 : State} {i : Instr} {index : Nat} {st : Status} {h : Handle}

/-! ## `OPEN_SESSION` -/

theorem openSession_fails {os : List (Status × Handle)} (hd : s.setTimeoutsDue = false) (ho : s.isOpen = false)
    (hi : s.devIndex = some index) (hst : st ≠ 0) (hq : s.transport.opens = (st, h) :: os) :
    exec .openSession s = .next (raise .driverError (some (.status st)) { s with
      phase := .opening, transport := { s.transport with opens := os },
      calls := s.calls ++ [.openDevice index st h] }) := by
  rw [exec_openSession,
    runWhile_step (fuel := 1) rfl (openCall_fails (s := goTo .opening s) (h := h) rfl hd ho hi hq hst), raiseDriver,
    runWhile_stop 1 (by obtain hp | hp := raise_closes_or_ends _ _ _ <;> rw [hp] <;> rfl)]
  rfl

theorem openSession_timeoutsFail {os : List (Status × Handle)} {ts : List Status} (hd : s.setTimeoutsDue = false)
    (ho : s.isOpen = false) (hi : s.devIndex = some index) (hst : st ≠ 0) (hq : s.transport.opens = (0, h) :: os)
    (ht : s.transport.timeouts = st :: ts) :
    exec .openSession s = .next (raise .driverError (some (.status st)) { s with
      phase := .opening, isOpen := true, handle := some h,
      transport := { s.transport with opens := os, timeouts := ts },
      calls := s.calls ++
        [.openDevice index 0 h, .setTimeouts h s.params.readTimeoutMs s.params.writeTimeoutMs st] }) := by
  have hopen := openCall_opens (s := goTo .opening s) (h := h) rfl hd ho hi hq
  rw [exec_openSession, runWhile_step (fuel := 1) rfl hopen]
  refine Eq.trans (runWhile_step (fuel := 0) rfl
    (openCall_timeoutsFail (h := h) (ts := ts) rfl rfl rfl (by exact ht) hst)) ?_
  rw [runWhile_zero]
  simp [raiseDriver, goTo, hd]

/-! ## A failed open -/

/-- The close sequence of a transaction whose open failed is due (R126 (c), R214). -/
def openFailedAt (s : State) (index : Nat) (st : Status) (h : Handle) (os : List (Status × Handle)) : State :=
  { s with
    phase := .reopening, err := .driverError, errInfo := some (.status st), closeErr := 0, bytesWritten := none,
    rdata := none, txbuf := none, rxbuf := none, qstatus := none, setTimeoutsDue := false,
    transport := { s.transport with opens := os }, calls := s.calls ++ [.openDevice index st h] }

theorem closeDue_of_opening (ht : isTransaction s = true) (hp : s.phase = .opening)
    (hcf : s.params.closeAfterOpenFailure = true) : closeDue s = true := by simp [closeDue, ht, hp, hcf]

/-- A transaction whose open fails: its close sequence follows if the parameter asks for it, else it is over. -/
theorem exec_openFails {os : List (Status × Handle)} (hr : Ready s index) (hl : loaded i s = some s1) (hst : st ≠ 0)
    (hq : s.transport.opens = (st, h) :: os) :
    exec i s = runWhile inTransaction 309 (if s.params.closeAfterOpenFailure then openFailedAt s1 index st h os
      else goIdle (openFailedAt s1 index st h os)) := by
  obtain ⟨frame, hf⟩ := Option.isSome_iff_exists.1 (loaded_requestFrame hl)
  obtain ⟨body, hb, -⟩ := requestFrame_eq_some.1 hf
  have ht := isTransaction_of_requestBody hb
  rw [exec_loaded hr hl]
  obtain ⟨op, d, r, n, p, rfl⟩ := loaded_eq hl
  have hstep := openCall_fails (s := beginOperation .opening { s with
    op := op, devAddr := d, regAddr := r, length := n, payload := p }) (h := h) rfl hr.due hr.closed hr.index hq hst
  rw [runTransaction, show transactionParts = 309 + 1 from rfl, runWhile_step rfl hstep, raiseDriver]
  cases hcf : s.params.closeAfterOpenFailure with
  | true =>
    rw [if_pos rfl, raise_due _ _ _ (closeDue_of_opening (by exact ht) (by rfl) (by exact hcf)),
      recordError_first _ _ _ rfl]
    rfl
  | false =>
    rw [if_neg (by decide), raise_notDue _ _ _ (by simp [closeDue, beginOperation, hcf, hr.closed]),
      recordError_first _ _ _ rfl]
    rfl

/-- The best-effort open by the flag, of a block that is not open, succeeding (R126 (c)). -/
theorem reopenCall_opens {os : List (Status × Handle)} (hp : s.phase = .reopening)
    (hm : s.params.reopenInClose = .viaFlag) (hd : s.setTimeoutsDue = false) (ho : s.isOpen = false)
    (hi : s.devIndex = some index) (hq : s.transport.opens = (0, h) :: os) :
    phaseStep s = .next { s with
      handle := some h, isOpen := true, setTimeoutsDue := true, transport := { s.transport with opens := os },
      calls := s.calls ++ [.openDevice index 0 h] } := by
  rw [phaseStep_reopening hp, reopenCall]
  simp [hm, openSessionCall, hd, ho, openPrimitive, hi, callOpen_some index hq, record]

/-- Its `set_timeouts`, whatever it answers. -/
theorem reopenCall_setsTimeouts {ts : List Status} (hp : s.phase = .reopening)
    (hm : s.params.reopenInClose = .viaFlag) (hd : s.setTimeoutsDue = true) (hh : s.handle = some h)
    (hq : s.transport.timeouts = st :: ts) :
    phaseStep s = .next { s with
      phase := .closing, setTimeoutsDue := false, transport := { s.transport with timeouts := ts },
      calls := s.calls ++ [.setTimeouts h s.params.readTimeoutMs s.params.writeTimeoutMs st] } := by
  rw [phaseStep_reopening hp, reopenCall]
  by_cases hst : st = 0 <;>
    simp [hm, openSessionCall, hd, setTimeoutsPrimitive, hh, callSetTimeouts_some h hq, hst, record, goTo,
      State.readTimeoutMs, State.writeTimeoutMs]

variable {h2 : Handle} {st2 cst : Status} {os : List (Status × Handle)} {cs ts : List Status}

/-- The second open fails too: one close with a free value (V-S3, U6). -/
theorem openFailedAt_fails (n : Nat) (hi : s.devIndex = some index) (ho : s.isOpen = false) (hh : s.handle = none)
    (hq : s.transport.closes = cst :: cs) (hst2 : st2 ≠ 0) :
    runWhile inTransaction (n + 2) (openFailedAt s index st h ((st2, h2) :: os)) =
      .next (endedBeforeBody s st cst (s.draws + 1) { s.transport with opens := os, closes := cs }
        [.openDevice index st h, .openDevice index st2 h2, .close (Config.freeHandle s.draws) cst]) := by
  rw [runWhile_step (fuel := n + 1) rfl
    (reopenCall_fails (s := openFailedAt s index st h ((st2, h2) :: os)) rfl rfl ho hi hst2 rfl)]
  refine Eq.trans (close_run rfl rfl n rfl (by exact hq)) ?_
  simp [openFailedAt, endedBeforeBody, goIdle, closeHandle, hh]

/-- The second open succeeds, without its `set_timeouts`. -/
theorem openFailedAt_always (n : Nat) (hi : s.devIndex = some index) (hq : s.transport.closes = cst :: cs)
    (hm : s.params.reopenInClose = .always) :
    runWhile inTransaction (n + 2) (openFailedAt s index st h ((0, h2) :: os)) =
      .next (endedBeforeBody s st cst s.draws { s.transport with opens := os, closes := cs }
        [.openDevice index st h, .openDevice index 0 h2, .close h2 cst]) := by
  rw [runWhile_step (fuel := n + 1) rfl
    (reopenCall_always (s := openFailedAt s index st h ((0, h2) :: os)) rfl hm hi rfl)]
  refine Eq.trans (close_run rfl rfl n rfl (by exact hq)) ?_
  simp [openFailedAt, endedBeforeBody, goIdle, closeHandle]

/-- The second open succeeds, with its `set_timeouts`, whose answer is discarded. -/
theorem openFailedAt_viaFlag {tst : Status} (n : Nat) (hi : s.devIndex = some index) (ho : s.isOpen = false)
    (hq : s.transport.closes = cst :: cs) (hm : s.params.reopenInClose = .viaFlag)
    (ht : s.transport.timeouts = tst :: ts) :
    runWhile inTransaction (n + 3) (openFailedAt s index st h ((0, h2) :: os)) =
      .next (endedBeforeBody s st cst s.draws { s.transport with opens := os, closes := cs, timeouts := ts }
        [.openDevice index st h, .openDevice index 0 h2,
          .setTimeouts h2 s.params.readTimeoutMs s.params.writeTimeoutMs tst, .close h2 cst]) := by
  rw [runWhile_step (fuel := n + 2) rfl
    (reopenCall_opens (s := openFailedAt s index st h ((0, h2) :: os)) rfl hm rfl ho hi rfl)]
  refine Eq.trans (runWhile_step (fuel := n + 1) rfl
    (reopenCall_setsTimeouts rfl (by exact hm) rfl rfl (by exact ht))) ?_
  refine Eq.trans (close_run rfl rfl n rfl (by exact hq)) ?_
  simp [openFailedAt, endedBeforeBody, goIdle, closeHandle]

/-! ## Failed timeouts -/

/-- The answers to a close sequence alone. -/
def Exchange.ofClose (h : Handle) (reopen : Status × Handle) (close : Status) : Exchange :=
  { handle := h, flush := 0, write := (0, 0), pending := [], last := (0, 0, 0), read := (0, []), reopen := reopen,
    close := close, later := Transport.empty, laterClock := 0 }

/-- A transaction whose `set_timeouts` fails: its session is closed (V-S4). -/
theorem exec_timeoutsFail {x : Exchange} {os : List (Status × Handle)} {cs ts : List Status} (hr : Ready s index)
    (hl : loaded i s = some s1) (hst : st ≠ 0)
    (hq : s.transport.opens = (0, x.handle) :: (x.reopens s.params.reopenInClose ++ os))
    (ht : s.transport.timeouts = st :: ts) (hc : s.transport.closes = x.close :: cs) :
    exec i s = .next (endedBeforeBody s1 st x.close s.draws
      { s.transport with opens := os, closes := cs, timeouts := ts }
      ([.openDevice index 0 x.handle, .setTimeouts x.handle s.params.readTimeoutMs s.params.writeTimeoutMs st] ++
        x.closing s.params.reopenInClose index)) := by
  obtain ⟨frame, hf⟩ := Option.isSome_iff_exists.1 (loaded_requestFrame hl)
  obtain ⟨body, hb, -⟩ := requestFrame_eq_some.1 hf
  have htrans := isTransaction_of_requestBody hb
  rw [exec_loaded hr hl]
  obtain ⟨op, d, r, n, p, rfl⟩ := loaded_eq hl
  have hopen := openCall_opens (s := beginOperation .opening { s with
    op := op, devAddr := d, regAddr := r, length := n, payload := p }) rfl hr.due hr.closed hr.index hq
  rw [runTransaction, show transactionParts = 306 + 2 + 1 + 1 from rfl, runWhile_step rfl hopen]
  refine Eq.trans (runWhile_step (fuel := 306 + 2) rfl
    (openCall_timeoutsFail (h := x.handle) rfl rfl rfl (by exact ht) hst)) ?_
  rw [raiseDriver]
  refine Eq.trans (abort_run (x := x) (index := index) rfl rfl rfl 306 ⟨rfl, rfl⟩ (by exact htrans) (by exact hr.index)
    rfl (by decide) (by exact hc) rfl) ?_
  simp [endedBeforeBody, goIdle, beginOperation, clearResults]

/-- Settles O22: `OPEN_SESSION` by itself, and the transactions by how far their opening comes. -/
theorem openSessionFailures : Obligations.OpenSessionFailures := by
  refine ⟨fun s index st h os hd ho hi => ⟨fun hst hq => openSession_fails hd ho hi hst hq,
    fun ts hst hq ht => openSession_timeoutsFail hd ho hi hst hq ht⟩,
    fun i s s1 index st h hr hh hl hst => ⟨fun os hcf hq => ?_, fun h2 st2 cst os cs hcf hq hc => ?_,
      fun cst os cs ts hq ht hc => ?_⟩⟩
  · rw [exec_openFails hr hl hst hq, hcf, if_neg (by decide), runWhile_stop _ rfl]
    obtain ⟨op, d, r, n, p, rfl⟩ := loaded_eq hl
    simp [openFailedAt, endedBeforeBody, goIdle, hr.closed, hh]
  · rw [exec_openFails hr hl hst hq, hcf, if_pos rfl]
    obtain ⟨op, d, r, n, p, rfl⟩ := loaded_eq hl
    refine ⟨fun hst2 => openFailedAt_fails _ hr.index hr.closed hh hc hst2, ?_, ?_⟩
    · rintro rfl hm
      exact openFailedAt_always _ hr.index hc hm
    · rintro tst ts rfl hm ht
      exact openFailedAt_viaFlag _ hr.index hr.closed hc hm ht
  · refine ⟨fun hm => ?_, fun st2 h2 os2 hm hos => ?_⟩
    · have hend := exec_timeoutsFail (x := .ofClose h (0, h) cst) (os := os) hr hl hst (by rw [hm]; exact hq) ht hc
      rw [hm] at hend
      exact hend
    · subst hos
      have hend := exec_timeoutsFail (x := .ofClose h (st2, h2) cst) (os := os2) hr hl hst (by rw [hm]; exact hq) ht hc
      rw [hm] at hend
      exact hend

end Sys2Proof.Machine
end
